-- ==== Sys2Proof/Word.lean ====
section
/-! DEFINITION. The word types of the two processors (spec R5, R20 to R24, R50, R530). -/

namespace Sys2Proof

/-- A byte: the width of the 6507 data bus and of every 6507 register but the program counter (R5 `XLEN_6507`). -/
abbrev Byte := BitVec 8

/-- A 16-bit 6507 address: the width of its program counter (R5 `PCLEN_6507`, R24). -/
abbrev Addr := BitVec 16

/-- An address as the 6507 bus carries it, 13 bits (R5 `ABUS_6507`, R81). -/
abbrev BusAddr := BitVec 13

/-- An ARM halfword, one Thumb instruction (R530). -/
abbrev Half := BitVec 16

/-- An ARM word, the width of its registers and addresses (R50, R105). -/
abbrev Word := BitVec 32

end Sys2Proof
end

