-- ==== Sys2Proof/Syntax.lean ====
section
/-! DEFINITION. The syntax: one constructor for every row of opcode_table.json (R130 to R154, R530 to R533). -/

namespace Sys2Proof

/-- A Thumb register field of three bits, naming `R[0..7]` (R530). -/
abbrev LowReg := BitVec 3

/-- A Thumb register number of four bits, `H ++ R`, naming `R[0..15]` (format 5, R530). -/
abbrev AnyReg := BitVec 4

/-- The instructions. The first 256 are the 6507 opcodes of the matrix R147, those with operand bytes before those
without (an undocumented twin of a documented row, and each of several equal rows, carries its opcode in its name);
`b1`, `b2` are the operand bytes of R131. The constructors with a leading `t` are the Thumb instructions (R531); their fields are those of R532, and
format 5 register numbers are the four bits `H1 ++ Rd`, `H2 ++ Rs`. -/
inductive Instr where
  /-- ORA (b1,X), opcode 01 (R208). -/
  | oraIzx (b1 : Byte)
  /-- SLO (b1,X), opcode 03 (R312). -/
  | sloIzx (b1 : Byte)
  /-- NOP b1, opcode 04 (R336). -/
  | nopZp04 (b1 : Byte)
  /-- ORA b1, opcode 05 (R208). -/
  | oraZp (b1 : Byte)
  /-- ASL b1, opcode 06 (R231). -/
  | aslZp (b1 : Byte)
  /-- SLO b1, opcode 07 (R312). -/
  | sloZp (b1 : Byte)
  /-- ORA #b1, opcode 09 (R208). -/
  | oraImm (b1 : Byte)
  /-- ANC #b1, opcode 0B (R320). -/
  | ancImm0B (b1 : Byte)
  /-- NOP b2b1, opcode 0C (R336). -/
  | nopAbs (b1 b2 : Byte)
  /-- ORA b2b1, opcode 0D (R208). -/
  | oraAbs (b1 b2 : Byte)
  /-- ASL b2b1, opcode 0E (R231). -/
  | aslAbs (b1 b2 : Byte)
  /-- SLO b2b1, opcode 0F (R312). -/
  | sloAbs (b1 b2 : Byte)
  /-- BPL b1, opcode 10 (R266). -/
  | bpl (b1 : Byte)
  /-- ORA (b1),Y, opcode 11 (R208). -/
  | oraIzy (b1 : Byte)
  /-- SLO (b1),Y, opcode 13 (R312). -/
  | sloIzy (b1 : Byte)
  /-- NOP b1,X, opcode 14 (R336). -/
  | nopZpx14 (b1 : Byte)
  /-- ORA b1,X, opcode 15 (R208). -/
  | oraZpx (b1 : Byte)
  /-- ASL b1,X, opcode 16 (R231). -/
  | aslZpx (b1 : Byte)
  /-- SLO b1,X, opcode 17 (R312). -/
  | sloZpx (b1 : Byte)
  /-- ORA b2b1,Y, opcode 19 (R208). -/
  | oraAby (b1 b2 : Byte)
  /-- SLO b2b1,Y, opcode 1B (R312). -/
  | sloAby (b1 b2 : Byte)
  /-- NOP b2b1,X, opcode 1C (R336). -/
  | nopAbx1C (b1 b2 : Byte)
  /-- ORA b2b1,X, opcode 1D (R208). -/
  | oraAbx (b1 b2 : Byte)
  /-- ASL b2b1,X, opcode 1E (R231). -/
  | aslAbx (b1 b2 : Byte)
  /-- SLO b2b1,X, opcode 1F (R312). -/
  | sloAbx (b1 b2 : Byte)
  /-- JSR b2b1, opcode 20 (R261). -/
  | jsrAbs (b1 b2 : Byte)
  /-- AND (b1,X), opcode 21 (R207). -/
  | andIzx (b1 : Byte)
  /-- RLA (b1,X), opcode 23 (R313). -/
  | rlaIzx (b1 : Byte)
  /-- BIT b1, opcode 24 (R214). -/
  | bitZp (b1 : Byte)
  /-- AND b1, opcode 25 (R207). -/
  | andZp (b1 : Byte)
  /-- ROL b1, opcode 26 (R233). -/
  | rolZp (b1 : Byte)
  /-- RLA b1, opcode 27 (R313). -/
  | rlaZp (b1 : Byte)
  /-- AND #b1, opcode 29 (R207). -/
  | andImm (b1 : Byte)
  /-- ANC #b1, opcode 2B (R320). -/
  | ancImm2B (b1 : Byte)
  /-- BIT b2b1, opcode 2C (R214). -/
  | bitAbs (b1 b2 : Byte)
  /-- AND b2b1, opcode 2D (R207). -/
  | andAbs (b1 b2 : Byte)
  /-- ROL b2b1, opcode 2E (R233). -/
  | rolAbs (b1 b2 : Byte)
  /-- RLA b2b1, opcode 2F (R313). -/
  | rlaAbs (b1 b2 : Byte)
  /-- BMI b1, opcode 30 (R267). -/
  | bmi (b1 : Byte)
  /-- AND (b1),Y, opcode 31 (R207). -/
  | andIzy (b1 : Byte)
  /-- RLA (b1),Y, opcode 33 (R313). -/
  | rlaIzy (b1 : Byte)
  /-- NOP b1,X, opcode 34 (R336). -/
  | nopZpx34 (b1 : Byte)
  /-- AND b1,X, opcode 35 (R207). -/
  | andZpx (b1 : Byte)
  /-- ROL b1,X, opcode 36 (R233). -/
  | rolZpx (b1 : Byte)
  /-- RLA b1,X, opcode 37 (R313). -/
  | rlaZpx (b1 : Byte)
  /-- AND b2b1,Y, opcode 39 (R207). -/
  | andAby (b1 b2 : Byte)
  /-- RLA b2b1,Y, opcode 3B (R313). -/
  | rlaAby (b1 b2 : Byte)
  /-- NOP b2b1,X, opcode 3C (R336). -/
  | nopAbx3C (b1 b2 : Byte)
  /-- AND b2b1,X, opcode 3D (R207). -/
  | andAbx (b1 b2 : Byte)
  /-- ROL b2b1,X, opcode 3E (R233). -/
  | rolAbx (b1 b2 : Byte)
  /-- RLA b2b1,X, opcode 3F (R313). -/
  | rlaAbx (b1 b2 : Byte)
  /-- EOR (b1,X), opcode 41 (R209). -/
  | eorIzx (b1 : Byte)
  /-- SRE (b1,X), opcode 43 (R314). -/
  | sreIzx (b1 : Byte)
  /-- NOP b1, opcode 44 (R336). -/
  | nopZp44 (b1 : Byte)
  /-- EOR b1, opcode 45 (R209). -/
  | eorZp (b1 : Byte)
  /-- LSR b1, opcode 46 (R232). -/
  | lsrZp (b1 : Byte)
  /-- SRE b1, opcode 47 (R314). -/
  | sreZp (b1 : Byte)
  /-- EOR #b1, opcode 49 (R209). -/
  | eorImm (b1 : Byte)
  /-- ALR #b1, opcode 4B (R321). -/
  | alrImm (b1 : Byte)
  /-- JMP b2b1, opcode 4C (R260). -/
  | jmpAbs (b1 b2 : Byte)
  /-- EOR b2b1, opcode 4D (R209). -/
  | eorAbs (b1 b2 : Byte)
  /-- LSR b2b1, opcode 4E (R232). -/
  | lsrAbs (b1 b2 : Byte)
  /-- SRE b2b1, opcode 4F (R314). -/
  | sreAbs (b1 b2 : Byte)
  /-- BVC b1, opcode 50 (R268). -/
  | bvc (b1 : Byte)
  /-- EOR (b1),Y, opcode 51 (R209). -/
  | eorIzy (b1 : Byte)
  /-- SRE (b1),Y, opcode 53 (R314). -/
  | sreIzy (b1 : Byte)
  /-- NOP b1,X, opcode 54 (R336). -/
  | nopZpx54 (b1 : Byte)
  /-- EOR b1,X, opcode 55 (R209). -/
  | eorZpx (b1 : Byte)
  /-- LSR b1,X, opcode 56 (R232). -/
  | lsrZpx (b1 : Byte)
  /-- SRE b1,X, opcode 57 (R314). -/
  | sreZpx (b1 : Byte)
  /-- EOR b2b1,Y, opcode 59 (R209). -/
  | eorAby (b1 b2 : Byte)
  /-- SRE b2b1,Y, opcode 5B (R314). -/
  | sreAby (b1 b2 : Byte)
  /-- NOP b2b1,X, opcode 5C (R336). -/
  | nopAbx5C (b1 b2 : Byte)
  /-- EOR b2b1,X, opcode 5D (R209). -/
  | eorAbx (b1 b2 : Byte)
  /-- LSR b2b1,X, opcode 5E (R232). -/
  | lsrAbx (b1 b2 : Byte)
  /-- SRE b2b1,X, opcode 5F (R314). -/
  | sreAbx (b1 b2 : Byte)
  /-- ADC (b1,X), opcode 61 (R201). -/
  | adcIzx (b1 : Byte)
  /-- RRA (b1,X), opcode 63 (R315). -/
  | rraIzx (b1 : Byte)
  /-- NOP b1, opcode 64 (R336). -/
  | nopZp64 (b1 : Byte)
  /-- ADC b1, opcode 65 (R201). -/
  | adcZp (b1 : Byte)
  /-- ROR b1, opcode 66 (R234). -/
  | rorZp (b1 : Byte)
  /-- RRA b1, opcode 67 (R315). -/
  | rraZp (b1 : Byte)
  /-- ADC #b1, opcode 69 (R201). -/
  | adcImm (b1 : Byte)
  /-- ARR #b1, opcode 6B (R322). -/
  | arrImm (b1 : Byte)
  /-- JMP (b2b1), opcode 6C (R260). -/
  | jmpInd (b1 b2 : Byte)
  /-- ADC b2b1, opcode 6D (R201). -/
  | adcAbs (b1 b2 : Byte)
  /-- ROR b2b1, opcode 6E (R234). -/
  | rorAbs (b1 b2 : Byte)
  /-- RRA b2b1, opcode 6F (R315). -/
  | rraAbs (b1 b2 : Byte)
  /-- BVS b1, opcode 70 (R269). -/
  | bvs (b1 : Byte)
  /-- ADC (b1),Y, opcode 71 (R201). -/
  | adcIzy (b1 : Byte)
  /-- RRA (b1),Y, opcode 73 (R315). -/
  | rraIzy (b1 : Byte)
  /-- NOP b1,X, opcode 74 (R336). -/
  | nopZpx74 (b1 : Byte)
  /-- ADC b1,X, opcode 75 (R201). -/
  | adcZpx (b1 : Byte)
  /-- ROR b1,X, opcode 76 (R234). -/
  | rorZpx (b1 : Byte)
  /-- RRA b1,X, opcode 77 (R315). -/
  | rraZpx (b1 : Byte)
  /-- ADC b2b1,Y, opcode 79 (R201). -/
  | adcAby (b1 b2 : Byte)
  /-- RRA b2b1,Y, opcode 7B (R315). -/
  | rraAby (b1 b2 : Byte)
  /-- NOP b2b1,X, opcode 7C (R336). -/
  | nopAbx7C (b1 b2 : Byte)
  /-- ADC b2b1,X, opcode 7D (R201). -/
  | adcAbx (b1 b2 : Byte)
  /-- ROR b2b1,X, opcode 7E (R234). -/
  | rorAbx (b1 b2 : Byte)
  /-- RRA b2b1,X, opcode 7F (R315). -/
  | rraAbx (b1 b2 : Byte)
  /-- NOP #b1, opcode 80 (R336). -/
  | nopImm80 (b1 : Byte)
  /-- STA (b1,X), opcode 81 (R174). -/
  | staIzx (b1 : Byte)
  /-- NOP #b1, opcode 82 (R336). -/
  | nopImm82 (b1 : Byte)
  /-- SAX (b1,X), opcode 83 (R316). -/
  | saxIzx (b1 : Byte)
  /-- STY b1, opcode 84 (R176). -/
  | styZp (b1 : Byte)
  /-- STA b1, opcode 85 (R174). -/
  | staZp (b1 : Byte)
  /-- STX b1, opcode 86 (R175). -/
  | stxZp (b1 : Byte)
  /-- SAX b1, opcode 87 (R316). -/
  | saxZp (b1 : Byte)
  /-- NOP #b1, opcode 89 (R336). -/
  | nopImm89 (b1 : Byte)
  /-- ANE #b1, opcode 8B (R342). -/
  | aneImm (b1 : Byte)
  /-- STY b2b1, opcode 8C (R176). -/
  | styAbs (b1 b2 : Byte)
  /-- STA b2b1, opcode 8D (R174). -/
  | staAbs (b1 b2 : Byte)
  /-- STX b2b1, opcode 8E (R175). -/
  | stxAbs (b1 b2 : Byte)
  /-- SAX b2b1, opcode 8F (R316). -/
  | saxAbs (b1 b2 : Byte)
  /-- BCC b1, opcode 90 (R270). -/
  | bcc (b1 : Byte)
  /-- STA (b1),Y, opcode 91 (R174). -/
  | staIzy (b1 : Byte)
  /-- SHA (b1),Y, opcode 93 (R344). -/
  | shaIzy (b1 : Byte)
  /-- STY b1,X, opcode 94 (R176). -/
  | styZpx (b1 : Byte)
  /-- STA b1,X, opcode 95 (R174). -/
  | staZpx (b1 : Byte)
  /-- STX b1,Y, opcode 96 (R175). -/
  | stxZpy (b1 : Byte)
  /-- SAX b1,Y, opcode 97 (R316). -/
  | saxZpy (b1 : Byte)
  /-- STA b2b1,Y, opcode 99 (R174). -/
  | staAby (b1 b2 : Byte)
  /-- TAS b2b1,Y, opcode 9B (R347). -/
  | tasAby (b1 b2 : Byte)
  /-- SHY b2b1,X, opcode 9C (R345). -/
  | shyAbx (b1 b2 : Byte)
  /-- STA b2b1,X, opcode 9D (R174). -/
  | staAbx (b1 b2 : Byte)
  /-- SHX b2b1,Y, opcode 9E (R346). -/
  | shxAby (b1 b2 : Byte)
  /-- SHA b2b1,Y, opcode 9F (R344). -/
  | shaAby (b1 b2 : Byte)
  /-- LDY #b1, opcode A0 (R173). -/
  | ldyImm (b1 : Byte)
  /-- LDA (b1,X), opcode A1 (R171). -/
  | ldaIzx (b1 : Byte)
  /-- LDX #b1, opcode A2 (R172). -/
  | ldxImm (b1 : Byte)
  /-- LAX (b1,X), opcode A3 (R317). -/
  | laxIzx (b1 : Byte)
  /-- LDY b1, opcode A4 (R173). -/
  | ldyZp (b1 : Byte)
  /-- LDA b1, opcode A5 (R171). -/
  | ldaZp (b1 : Byte)
  /-- LDX b1, opcode A6 (R172). -/
  | ldxZp (b1 : Byte)
  /-- LAX b1, opcode A7 (R317). -/
  | laxZp (b1 : Byte)
  /-- LDA #b1, opcode A9 (R171). -/
  | ldaImm (b1 : Byte)
  /-- LXA #b1, opcode AB (R343). -/
  | lxaImm (b1 : Byte)
  /-- LDY b2b1, opcode AC (R173). -/
  | ldyAbs (b1 b2 : Byte)
  /-- LDA b2b1, opcode AD (R171). -/
  | ldaAbs (b1 b2 : Byte)
  /-- LDX b2b1, opcode AE (R172). -/
  | ldxAbs (b1 b2 : Byte)
  /-- LAX b2b1, opcode AF (R317). -/
  | laxAbs (b1 b2 : Byte)
  /-- BCS b1, opcode B0 (R271). -/
  | bcs (b1 : Byte)
  /-- LDA (b1),Y, opcode B1 (R171). -/
  | ldaIzy (b1 : Byte)
  /-- LAX (b1),Y, opcode B3 (R317). -/
  | laxIzy (b1 : Byte)
  /-- LDY b1,X, opcode B4 (R173). -/
  | ldyZpx (b1 : Byte)
  /-- LDA b1,X, opcode B5 (R171). -/
  | ldaZpx (b1 : Byte)
  /-- LDX b1,Y, opcode B6 (R172). -/
  | ldxZpy (b1 : Byte)
  /-- LAX b1,Y, opcode B7 (R317). -/
  | laxZpy (b1 : Byte)
  /-- LDA b2b1,Y, opcode B9 (R171). -/
  | ldaAby (b1 b2 : Byte)
  /-- LAS b2b1,Y, opcode BB (R335). -/
  | lasAby (b1 b2 : Byte)
  /-- LDY b2b1,X, opcode BC (R173). -/
  | ldyAbx (b1 b2 : Byte)
  /-- LDA b2b1,X, opcode BD (R171). -/
  | ldaAbx (b1 b2 : Byte)
  /-- LDX b2b1,Y, opcode BE (R172). -/
  | ldxAby (b1 b2 : Byte)
  /-- LAX b2b1,Y, opcode BF (R317). -/
  | laxAby (b1 b2 : Byte)
  /-- CPY #b1, opcode C0 (R213). -/
  | cpyImm (b1 : Byte)
  /-- CMP (b1,X), opcode C1 (R211). -/
  | cmpIzx (b1 : Byte)
  /-- NOP #b1, opcode C2 (R336). -/
  | nopImmC2 (b1 : Byte)
  /-- DCP (b1,X), opcode C3 (R318). -/
  | dcpIzx (b1 : Byte)
  /-- CPY b1, opcode C4 (R213). -/
  | cpyZp (b1 : Byte)
  /-- CMP b1, opcode C5 (R211). -/
  | cmpZp (b1 : Byte)
  /-- DEC b1, opcode C6 (R236). -/
  | decZp (b1 : Byte)
  /-- DCP b1, opcode C7 (R318). -/
  | dcpZp (b1 : Byte)
  /-- CMP #b1, opcode C9 (R211). -/
  | cmpImm (b1 : Byte)
  /-- SBX #b1, opcode CB (R323). -/
  | sbxImm (b1 : Byte)
  /-- CPY b2b1, opcode CC (R213). -/
  | cpyAbs (b1 b2 : Byte)
  /-- CMP b2b1, opcode CD (R211). -/
  | cmpAbs (b1 b2 : Byte)
  /-- DEC b2b1, opcode CE (R236). -/
  | decAbs (b1 b2 : Byte)
  /-- DCP b2b1, opcode CF (R318). -/
  | dcpAbs (b1 b2 : Byte)
  /-- BNE b1, opcode D0 (R272). -/
  | bne (b1 : Byte)
  /-- CMP (b1),Y, opcode D1 (R211). -/
  | cmpIzy (b1 : Byte)
  /-- DCP (b1),Y, opcode D3 (R318). -/
  | dcpIzy (b1 : Byte)
  /-- NOP b1,X, opcode D4 (R336). -/
  | nopZpxD4 (b1 : Byte)
  /-- CMP b1,X, opcode D5 (R211). -/
  | cmpZpx (b1 : Byte)
  /-- DEC b1,X, opcode D6 (R236). -/
  | decZpx (b1 : Byte)
  /-- DCP b1,X, opcode D7 (R318). -/
  | dcpZpx (b1 : Byte)
  /-- CMP b2b1,Y, opcode D9 (R211). -/
  | cmpAby (b1 b2 : Byte)
  /-- DCP b2b1,Y, opcode DB (R318). -/
  | dcpAby (b1 b2 : Byte)
  /-- NOP b2b1,X, opcode DC (R336). -/
  | nopAbxDC (b1 b2 : Byte)
  /-- CMP b2b1,X, opcode DD (R211). -/
  | cmpAbx (b1 b2 : Byte)
  /-- DEC b2b1,X, opcode DE (R236). -/
  | decAbx (b1 b2 : Byte)
  /-- DCP b2b1,X, opcode DF (R318). -/
  | dcpAbx (b1 b2 : Byte)
  /-- CPX #b1, opcode E0 (R212). -/
  | cpxImm (b1 : Byte)
  /-- SBC (b1,X), opcode E1 (R204). -/
  | sbcIzx (b1 : Byte)
  /-- NOP #b1, opcode E2 (R336). -/
  | nopImmE2 (b1 : Byte)
  /-- ISC (b1,X), opcode E3 (R319). -/
  | iscIzx (b1 : Byte)
  /-- CPX b1, opcode E4 (R212). -/
  | cpxZp (b1 : Byte)
  /-- SBC b1, opcode E5 (R204). -/
  | sbcZp (b1 : Byte)
  /-- INC b1, opcode E6 (R235). -/
  | incZp (b1 : Byte)
  /-- ISC b1, opcode E7 (R319). -/
  | iscZp (b1 : Byte)
  /-- SBC #b1, opcode E9 (R204). -/
  | sbcImm (b1 : Byte)
  /-- SBC #b1, opcode EB (R334). -/
  | sbcImmEB (b1 : Byte)
  /-- CPX b2b1, opcode EC (R212). -/
  | cpxAbs (b1 b2 : Byte)
  /-- SBC b2b1, opcode ED (R204). -/
  | sbcAbs (b1 b2 : Byte)
  /-- INC b2b1, opcode EE (R235). -/
  | incAbs (b1 b2 : Byte)
  /-- ISC b2b1, opcode EF (R319). -/
  | iscAbs (b1 b2 : Byte)
  /-- BEQ b1, opcode F0 (R273). -/
  | beq (b1 : Byte)
  /-- SBC (b1),Y, opcode F1 (R204). -/
  | sbcIzy (b1 : Byte)
  /-- ISC (b1),Y, opcode F3 (R319). -/
  | iscIzy (b1 : Byte)
  /-- NOP b1,X, opcode F4 (R336). -/
  | nopZpxF4 (b1 : Byte)
  /-- SBC b1,X, opcode F5 (R204). -/
  | sbcZpx (b1 : Byte)
  /-- INC b1,X, opcode F6 (R235). -/
  | incZpx (b1 : Byte)
  /-- ISC b1,X, opcode F7 (R319). -/
  | iscZpx (b1 : Byte)
  /-- SBC b2b1,Y, opcode F9 (R204). -/
  | sbcAby (b1 b2 : Byte)
  /-- ISC b2b1,Y, opcode FB (R319). -/
  | iscAby (b1 b2 : Byte)
  /-- NOP b2b1,X, opcode FC (R336). -/
  | nopAbxFC (b1 b2 : Byte)
  /-- SBC b2b1,X, opcode FD (R204). -/
  | sbcAbx (b1 b2 : Byte)
  /-- INC b2b1,X, opcode FE (R235). -/
  | incAbx (b1 b2 : Byte)
  /-- ISC b2b1,X, opcode FF (R319). -/
  | iscAbx (b1 b2 : Byte)
  /-- BRK, opcode 00 (R264). -/
  | brk
  /-- JAM, opcode 02 (R341). -/
  | jam02
  /-- PHP, opcode 08 (R276). -/
  | php
  /-- ASL A, opcode 0A (R231). -/
  | aslAcc
  /-- JAM, opcode 12 (R341). -/
  | jam12
  /-- CLC, opcode 18 (R279). -/
  | clc
  /-- NOP, opcode 1A (R336). -/
  | nop1A
  /-- JAM, opcode 22 (R341). -/
  | jam22
  /-- PLP, opcode 28 (R278). -/
  | plp
  /-- ROL A, opcode 2A (R233). -/
  | rolAcc
  /-- JAM, opcode 32 (R341). -/
  | jam32
  /-- SEC, opcode 38 (R280). -/
  | sec
  /-- NOP, opcode 3A (R336). -/
  | nop3A
  /-- RTI, opcode 40 (R263). -/
  | rti
  /-- JAM, opcode 42 (R341). -/
  | jam42
  /-- PHA, opcode 48 (R275). -/
  | pha
  /-- LSR A, opcode 4A (R232). -/
  | lsrAcc
  /-- JAM, opcode 52 (R341). -/
  | jam52
  /-- CLI, opcode 58 (R281). -/
  | cli
  /-- NOP, opcode 5A (R336). -/
  | nop5A
  /-- RTS, opcode 60 (R262). -/
  | rts
  /-- JAM, opcode 62 (R341). -/
  | jam62
  /-- PLA, opcode 68 (R277). -/
  | pla
  /-- ROR A, opcode 6A (R234). -/
  | rorAcc
  /-- JAM, opcode 72 (R341). -/
  | jam72
  /-- SEI, opcode 78 (R282). -/
  | sei
  /-- NOP, opcode 7A (R336). -/
  | nop7A
  /-- DEY, opcode 88 (R240). -/
  | dey
  /-- TXA, opcode 8A (R179). -/
  | txa
  /-- JAM, opcode 92 (R341). -/
  | jam92
  /-- TYA, opcode 98 (R180). -/
  | tya
  /-- TXS, opcode 9A (R182). -/
  | txs
  /-- TAY, opcode A8 (R178). -/
  | tay
  /-- TAX, opcode AA (R177). -/
  | tax
  /-- JAM, opcode B2 (R341). -/
  | jamB2
  /-- CLV, opcode B8 (R283). -/
  | clv
  /-- TSX, opcode BA (R181). -/
  | tsx
  /-- INY, opcode C8 (R238). -/
  | iny
  /-- DEX, opcode CA (R239). -/
  | dex
  /-- JAM, opcode D2 (R341). -/
  | jamD2
  /-- CLD, opcode D8 (R284). -/
  | cld
  /-- NOP, opcode DA (R336). -/
  | nopDA
  /-- INX, opcode E8 (R237). -/
  | inx
  /-- NOP, opcode EA (R274). -/
  | nop
  /-- JAM, opcode F2 (R341). -/
  | jamF2
  /-- SED, opcode F8 (R285). -/
  | sed
  /-- NOP, opcode FA (R336). -/
  | nopFA
  /-- Thumb LSL, format 1, halfword 0000 (R536). -/
  | tLslImm (rd : LowReg) (rs : LowReg) (off : BitVec 5)
  /-- Thumb LSR, format 1, halfword 0800 (R537). -/
  | tLsrImm (rd : LowReg) (rs : LowReg) (off : BitVec 5)
  /-- Thumb ASR, format 1, halfword 1000 (R538). -/
  | tAsrImm (rd : LowReg) (rs : LowReg) (off : BitVec 5)
  /-- Thumb ADD, format 2, halfword 1800 (R540). -/
  | tAddReg (rd : LowReg) (rs : LowReg) (rn : LowReg)
  /-- Thumb SUB, format 2, halfword 1A00 (R541). -/
  | tSubReg (rd : LowReg) (rs : LowReg) (rn : LowReg)
  /-- Thumb ADD, format 2, halfword 1C00 (R542). -/
  | tAddImm3 (rd : LowReg) (rs : LowReg) (imm : BitVec 3)
  /-- Thumb SUB, format 2, halfword 1E00 (R543). -/
  | tSubImm3 (rd : LowReg) (rs : LowReg) (imm : BitVec 3)
  /-- Thumb MOV, format 3, halfword 2000 (R545). -/
  | tMovImm (rd : LowReg) (imm : Byte)
  /-- Thumb CMP, format 3, halfword 2800 (R546). -/
  | tCmpImm (rd : LowReg) (imm : Byte)
  /-- Thumb ADD, format 3, halfword 3000 (R547). -/
  | tAddImm8 (rd : LowReg) (imm : Byte)
  /-- Thumb SUB, format 3, halfword 3800 (R548). -/
  | tSubImm8 (rd : LowReg) (imm : Byte)
  /-- Thumb AND, format 4, halfword 4000 (R550). -/
  | tAnd (rd : LowReg) (rs : LowReg)
  /-- Thumb EOR, format 4, halfword 4040 (R551). -/
  | tEor (rd : LowReg) (rs : LowReg)
  /-- Thumb LSL, format 4, halfword 4080 (R552). -/
  | tLslReg (rd : LowReg) (rs : LowReg)
  /-- Thumb LSR, format 4, halfword 40C0 (R553). -/
  | tLsrReg (rd : LowReg) (rs : LowReg)
  /-- Thumb ASR, format 4, halfword 4100 (R554). -/
  | tAsrReg (rd : LowReg) (rs : LowReg)
  /-- Thumb ADC, format 4, halfword 4140 (R555). -/
  | tAdc (rd : LowReg) (rs : LowReg)
  /-- Thumb SBC, format 4, halfword 4180 (R556). -/
  | tSbc (rd : LowReg) (rs : LowReg)
  /-- Thumb ROR, format 4, halfword 41C0 (R557). -/
  | tRorReg (rd : LowReg) (rs : LowReg)
  /-- Thumb TST, format 4, halfword 4200 (R558). -/
  | tTst (rd : LowReg) (rs : LowReg)
  /-- Thumb NEG, format 4, halfword 4240 (R559). -/
  | tNeg (rd : LowReg) (rs : LowReg)
  /-- Thumb CMP, format 4, halfword 4280 (R560). -/
  | tCmpReg (rd : LowReg) (rs : LowReg)
  /-- Thumb CMN, format 4, halfword 42C0 (R561). -/
  | tCmn (rd : LowReg) (rs : LowReg)
  /-- Thumb ORR, format 4, halfword 4300 (R562). -/
  | tOrr (rd : LowReg) (rs : LowReg)
  /-- Thumb MUL, format 4, halfword 4340 (R563). -/
  | tMul (rd : LowReg) (rs : LowReg)
  /-- Thumb BIC, format 4, halfword 4380 (R564). -/
  | tBic (rd : LowReg) (rs : LowReg)
  /-- Thumb MVN, format 4, halfword 43C0 (R565). -/
  | tMvn (rd : LowReg) (rs : LowReg)
  /-- Thumb ADD, format 5, halfword 4400 (R566). -/
  | tAddHi (rd : AnyReg) (rs : AnyReg)
  /-- Thumb CMP, format 5, halfword 4500 (R567). -/
  | tCmpHi (rd : AnyReg) (rs : AnyReg)
  /-- Thumb MOV, format 5, halfword 4600 (R568). -/
  | tMovHi (rd : AnyReg) (rs : AnyReg)
  /-- Thumb BX, format 5, halfword 4700 (R569). -/
  | tBx (rs : AnyReg)
  /-- Thumb LDR, format 6, halfword 4800 (R570). -/
  | tLdrPc (rd : LowReg) (imm : Byte)
  /-- Thumb STR, format 7, halfword 5000 (R571). -/
  | tStrReg (rd : LowReg) (rb : LowReg) (ro : LowReg)
  /-- Thumb STRB, format 7, halfword 5400 (R572). -/
  | tStrbReg (rd : LowReg) (rb : LowReg) (ro : LowReg)
  /-- Thumb LDR, format 7, halfword 5800 (R573). -/
  | tLdrReg (rd : LowReg) (rb : LowReg) (ro : LowReg)
  /-- Thumb LDRB, format 7, halfword 5C00 (R574). -/
  | tLdrbReg (rd : LowReg) (rb : LowReg) (ro : LowReg)
  /-- Thumb STRH, format 8, halfword 5200 (R575). -/
  | tStrhReg (rd : LowReg) (rb : LowReg) (ro : LowReg)
  /-- Thumb LDRH, format 8, halfword 5A00 (R576). -/
  | tLdrhReg (rd : LowReg) (rb : LowReg) (ro : LowReg)
  /-- Thumb LDSB, format 8, halfword 5600 (R577). -/
  | tLdsbReg (rd : LowReg) (rb : LowReg) (ro : LowReg)
  /-- Thumb LDSH, format 8, halfword 5E00 (R578). -/
  | tLdshReg (rd : LowReg) (rb : LowReg) (ro : LowReg)
  /-- Thumb STR, format 9, halfword 6000 (R579). -/
  | tStrImm (rd : LowReg) (rb : LowReg) (off : BitVec 5)
  /-- Thumb LDR, format 9, halfword 6800 (R580). -/
  | tLdrImm (rd : LowReg) (rb : LowReg) (off : BitVec 5)
  /-- Thumb STRB, format 9, halfword 7000 (R581). -/
  | tStrbImm (rd : LowReg) (rb : LowReg) (off : BitVec 5)
  /-- Thumb LDRB, format 9, halfword 7800 (R582). -/
  | tLdrbImm (rd : LowReg) (rb : LowReg) (off : BitVec 5)
  /-- Thumb STRH, format 10, halfword 8000 (R583). -/
  | tStrhImm (rd : LowReg) (rb : LowReg) (off : BitVec 5)
  /-- Thumb LDRH, format 10, halfword 8800 (R584). -/
  | tLdrhImm (rd : LowReg) (rb : LowReg) (off : BitVec 5)
  /-- Thumb STR, format 11, halfword 9000 (R585). -/
  | tStrSp (rd : LowReg) (imm : Byte)
  /-- Thumb LDR, format 11, halfword 9800 (R586). -/
  | tLdrSp (rd : LowReg) (imm : Byte)
  /-- Thumb ADD, format 12, halfword A000 (R587). -/
  | tAddPc (rd : LowReg) (imm : Byte)
  /-- Thumb ADD, format 12, halfword A800 (R588). -/
  | tAddSp (rd : LowReg) (imm : Byte)
  /-- Thumb ADD, format 13, halfword B000 (R589). -/
  | tAddSpImm (imm : BitVec 7)
  /-- Thumb SUB, format 13, halfword B080 (R590). -/
  | tSubSpImm (imm : BitVec 7)
  /-- Thumb PUSH, format 14, halfword B400 (R591). -/
  | tPush (r : BitVec 1) (list : Byte)
  /-- Thumb POP, format 14, halfword BC00 (R592). -/
  | tPop (r : BitVec 1) (list : Byte)
  /-- Thumb STMIA, format 15, halfword C000 (R593). -/
  | tStmia (rb : LowReg) (list : Byte)
  /-- Thumb LDMIA, format 15, halfword C800 (R594). -/
  | tLdmia (rb : LowReg) (list : Byte)
  /-- Thumb BEQ, format 16, halfword D000 (R595). -/
  | tBeq (off : Byte)
  /-- Thumb BNE, format 16, halfword D100 (R595). -/
  | tBne (off : Byte)
  /-- Thumb BCS, format 16, halfword D200 (R595). -/
  | tBcs (off : Byte)
  /-- Thumb BCC, format 16, halfword D300 (R595). -/
  | tBcc (off : Byte)
  /-- Thumb BMI, format 16, halfword D400 (R595). -/
  | tBmi (off : Byte)
  /-- Thumb BPL, format 16, halfword D500 (R595). -/
  | tBpl (off : Byte)
  /-- Thumb BVS, format 16, halfword D600 (R595). -/
  | tBvs (off : Byte)
  /-- Thumb BVC, format 16, halfword D700 (R595). -/
  | tBvc (off : Byte)
  /-- Thumb BHI, format 16, halfword D800 (R595). -/
  | tBhi (off : Byte)
  /-- Thumb BLS, format 16, halfword D900 (R595). -/
  | tBls (off : Byte)
  /-- Thumb BGE, format 16, halfword DA00 (R595). -/
  | tBge (off : Byte)
  /-- Thumb BLT, format 16, halfword DB00 (R595). -/
  | tBlt (off : Byte)
  /-- Thumb BGT, format 16, halfword DC00 (R595). -/
  | tBgt (off : Byte)
  /-- Thumb BLE, format 16, halfword DD00 (R595). -/
  | tBle (off : Byte)
  /-- Thumb SWI, format 17, halfword DF00 (R596). -/
  | tSwi (imm : Byte)
  /-- Thumb B, format 18, halfword E000 (R597). -/
  | tB (off : BitVec 11)
  /-- Thumb BL, format 19, halfword F000 (R601). -/
  | tBlHi (off : BitVec 11)
  /-- Thumb BL, format 19, halfword F800 (R602). -/
  | tBlLo (off : BitVec 11)
  deriving DecidableEq, Repr

end Sys2Proof
end

