-- ==== Sys2Proof/WellFormed.lean ====
section
/-! DEFINITION. Which instructions are well formed: the register lists that R591 to R594 give a meaning. -/

namespace Sys2Proof

/-- `list8` names no register (R591 to R594: "`n == 0`"). -/
def listEmpty (list : Byte) : Bool := list == 0

/-- `Rb` is in the list and a lower register is too: the stored value is unpredictable (R593). -/
def baseNotLowest (rb : LowReg) (list : Byte) : Bool :=
  list.getLsbD rb.toNat && (list.toNat % 2 ^ rb.toNat != 0)

/-- The forms the spec gives a meaning: everything but an empty register list (R591 to R594) and an STMIA whose base
is listed and not lowest (R593). -/
def Instr.wellFormed : Instr → Bool
  | .tPush r list => !(r == 0 && listEmpty list)
  | .tPop r list => !(r == 0 && listEmpty list)
  | .tStmia rb list => !listEmpty list && !baseNotLowest rb list
  | .tLdmia _ list => !listEmpty list
  | .brk => true
  | .oraIzx _ => true
  | .jam02 => true
  | .sloIzx _ => true
  | .nopZp04 _ => true
  | .oraZp _ => true
  | .aslZp _ => true
  | .sloZp _ => true
  | .php => true
  | .oraImm _ => true
  | .aslAcc => true
  | .ancImm0B _ => true
  | .nopAbs _ _ => true
  | .oraAbs _ _ => true
  | .aslAbs _ _ => true
  | .sloAbs _ _ => true
  | .bpl _ => true
  | .oraIzy _ => true
  | .jam12 => true
  | .sloIzy _ => true
  | .nopZpx14 _ => true
  | .oraZpx _ => true
  | .aslZpx _ => true
  | .sloZpx _ => true
  | .clc => true
  | .oraAby _ _ => true
  | .nop1A => true
  | .sloAby _ _ => true
  | .nopAbx1C _ _ => true
  | .oraAbx _ _ => true
  | .aslAbx _ _ => true
  | .sloAbx _ _ => true
  | .jsrAbs _ _ => true
  | .andIzx _ => true
  | .jam22 => true
  | .rlaIzx _ => true
  | .bitZp _ => true
  | .andZp _ => true
  | .rolZp _ => true
  | .rlaZp _ => true
  | .plp => true
  | .andImm _ => true
  | .rolAcc => true
  | .ancImm2B _ => true
  | .bitAbs _ _ => true
  | .andAbs _ _ => true
  | .rolAbs _ _ => true
  | .rlaAbs _ _ => true
  | .bmi _ => true
  | .andIzy _ => true
  | .jam32 => true
  | .rlaIzy _ => true
  | .nopZpx34 _ => true
  | .andZpx _ => true
  | .rolZpx _ => true
  | .rlaZpx _ => true
  | .sec => true
  | .andAby _ _ => true
  | .nop3A => true
  | .rlaAby _ _ => true
  | .nopAbx3C _ _ => true
  | .andAbx _ _ => true
  | .rolAbx _ _ => true
  | .rlaAbx _ _ => true
  | .rti => true
  | .eorIzx _ => true
  | .jam42 => true
  | .sreIzx _ => true
  | .nopZp44 _ => true
  | .eorZp _ => true
  | .lsrZp _ => true
  | .sreZp _ => true
  | .pha => true
  | .eorImm _ => true
  | .lsrAcc => true
  | .alrImm _ => true
  | .jmpAbs _ _ => true
  | .eorAbs _ _ => true
  | .lsrAbs _ _ => true
  | .sreAbs _ _ => true
  | .bvc _ => true
  | .eorIzy _ => true
  | .jam52 => true
  | .sreIzy _ => true
  | .nopZpx54 _ => true
  | .eorZpx _ => true
  | .lsrZpx _ => true
  | .sreZpx _ => true
  | .cli => true
  | .eorAby _ _ => true
  | .nop5A => true
  | .sreAby _ _ => true
  | .nopAbx5C _ _ => true
  | .eorAbx _ _ => true
  | .lsrAbx _ _ => true
  | .sreAbx _ _ => true
  | .rts => true
  | .adcIzx _ => true
  | .jam62 => true
  | .rraIzx _ => true
  | .nopZp64 _ => true
  | .adcZp _ => true
  | .rorZp _ => true
  | .rraZp _ => true
  | .pla => true
  | .adcImm _ => true
  | .rorAcc => true
  | .arrImm _ => true
  | .jmpInd _ _ => true
  | .adcAbs _ _ => true
  | .rorAbs _ _ => true
  | .rraAbs _ _ => true
  | .bvs _ => true
  | .adcIzy _ => true
  | .jam72 => true
  | .rraIzy _ => true
  | .nopZpx74 _ => true
  | .adcZpx _ => true
  | .rorZpx _ => true
  | .rraZpx _ => true
  | .sei => true
  | .adcAby _ _ => true
  | .nop7A => true
  | .rraAby _ _ => true
  | .nopAbx7C _ _ => true
  | .adcAbx _ _ => true
  | .rorAbx _ _ => true
  | .rraAbx _ _ => true
  | .nopImm80 _ => true
  | .staIzx _ => true
  | .nopImm82 _ => true
  | .saxIzx _ => true
  | .styZp _ => true
  | .staZp _ => true
  | .stxZp _ => true
  | .saxZp _ => true
  | .dey => true
  | .nopImm89 _ => true
  | .txa => true
  | .aneImm _ => true
  | .styAbs _ _ => true
  | .staAbs _ _ => true
  | .stxAbs _ _ => true
  | .saxAbs _ _ => true
  | .bcc _ => true
  | .staIzy _ => true
  | .jam92 => true
  | .shaIzy _ => true
  | .styZpx _ => true
  | .staZpx _ => true
  | .stxZpy _ => true
  | .saxZpy _ => true
  | .tya => true
  | .staAby _ _ => true
  | .txs => true
  | .tasAby _ _ => true
  | .shyAbx _ _ => true
  | .staAbx _ _ => true
  | .shxAby _ _ => true
  | .shaAby _ _ => true
  | .ldyImm _ => true
  | .ldaIzx _ => true
  | .ldxImm _ => true
  | .laxIzx _ => true
  | .ldyZp _ => true
  | .ldaZp _ => true
  | .ldxZp _ => true
  | .laxZp _ => true
  | .tay => true
  | .ldaImm _ => true
  | .tax => true
  | .lxaImm _ => true
  | .ldyAbs _ _ => true
  | .ldaAbs _ _ => true
  | .ldxAbs _ _ => true
  | .laxAbs _ _ => true
  | .bcs _ => true
  | .ldaIzy _ => true
  | .jamB2 => true
  | .laxIzy _ => true
  | .ldyZpx _ => true
  | .ldaZpx _ => true
  | .ldxZpy _ => true
  | .laxZpy _ => true
  | .clv => true
  | .ldaAby _ _ => true
  | .tsx => true
  | .lasAby _ _ => true
  | .ldyAbx _ _ => true
  | .ldaAbx _ _ => true
  | .ldxAby _ _ => true
  | .laxAby _ _ => true
  | .cpyImm _ => true
  | .cmpIzx _ => true
  | .nopImmC2 _ => true
  | .dcpIzx _ => true
  | .cpyZp _ => true
  | .cmpZp _ => true
  | .decZp _ => true
  | .dcpZp _ => true
  | .iny => true
  | .cmpImm _ => true
  | .dex => true
  | .sbxImm _ => true
  | .cpyAbs _ _ => true
  | .cmpAbs _ _ => true
  | .decAbs _ _ => true
  | .dcpAbs _ _ => true
  | .bne _ => true
  | .cmpIzy _ => true
  | .jamD2 => true
  | .dcpIzy _ => true
  | .nopZpxD4 _ => true
  | .cmpZpx _ => true
  | .decZpx _ => true
  | .dcpZpx _ => true
  | .cld => true
  | .cmpAby _ _ => true
  | .nopDA => true
  | .dcpAby _ _ => true
  | .nopAbxDC _ _ => true
  | .cmpAbx _ _ => true
  | .decAbx _ _ => true
  | .dcpAbx _ _ => true
  | .cpxImm _ => true
  | .sbcIzx _ => true
  | .nopImmE2 _ => true
  | .iscIzx _ => true
  | .cpxZp _ => true
  | .sbcZp _ => true
  | .incZp _ => true
  | .iscZp _ => true
  | .inx => true
  | .sbcImm _ => true
  | .nop => true
  | .sbcImmEB _ => true
  | .cpxAbs _ _ => true
  | .sbcAbs _ _ => true
  | .incAbs _ _ => true
  | .iscAbs _ _ => true
  | .beq _ => true
  | .sbcIzy _ => true
  | .jamF2 => true
  | .iscIzy _ => true
  | .nopZpxF4 _ => true
  | .sbcZpx _ => true
  | .incZpx _ => true
  | .iscZpx _ => true
  | .sed => true
  | .sbcAby _ _ => true
  | .nopFA => true
  | .iscAby _ _ => true
  | .nopAbxFC _ _ => true
  | .sbcAbx _ _ => true
  | .incAbx _ _ => true
  | .iscAbx _ _ => true
  | .tLslImm _ _ _ => true
  | .tLsrImm _ _ _ => true
  | .tAsrImm _ _ _ => true
  | .tAddReg _ _ _ => true
  | .tSubReg _ _ _ => true
  | .tAddImm3 _ _ _ => true
  | .tSubImm3 _ _ _ => true
  | .tMovImm _ _ => true
  | .tCmpImm _ _ => true
  | .tAddImm8 _ _ => true
  | .tSubImm8 _ _ => true
  | .tAnd _ _ => true
  | .tEor _ _ => true
  | .tLslReg _ _ => true
  | .tLsrReg _ _ => true
  | .tAsrReg _ _ => true
  | .tAdc _ _ => true
  | .tSbc _ _ => true
  | .tRorReg _ _ => true
  | .tTst _ _ => true
  | .tNeg _ _ => true
  | .tCmpReg _ _ => true
  | .tCmn _ _ => true
  | .tOrr _ _ => true
  | .tMul _ _ => true
  | .tBic _ _ => true
  | .tMvn _ _ => true
  | .tAddHi _ _ => true
  | .tCmpHi _ _ => true
  | .tMovHi _ _ => true
  | .tBx _ => true
  | .tLdrPc _ _ => true
  | .tStrReg _ _ _ => true
  | .tStrbReg _ _ _ => true
  | .tLdrReg _ _ _ => true
  | .tLdrbReg _ _ _ => true
  | .tStrhReg _ _ _ => true
  | .tLdrhReg _ _ _ => true
  | .tLdsbReg _ _ _ => true
  | .tLdshReg _ _ _ => true
  | .tStrImm _ _ _ => true
  | .tLdrImm _ _ _ => true
  | .tStrbImm _ _ _ => true
  | .tLdrbImm _ _ _ => true
  | .tStrhImm _ _ _ => true
  | .tLdrhImm _ _ _ => true
  | .tStrSp _ _ => true
  | .tLdrSp _ _ => true
  | .tAddPc _ _ => true
  | .tAddSp _ _ => true
  | .tAddSpImm _ => true
  | .tSubSpImm _ => true
  | .tBeq _ => true
  | .tBne _ => true
  | .tBcs _ => true
  | .tBcc _ => true
  | .tBmi _ => true
  | .tBpl _ => true
  | .tBvs _ => true
  | .tBvc _ => true
  | .tBhi _ => true
  | .tBls _ => true
  | .tBge _ => true
  | .tBlt _ => true
  | .tBgt _ => true
  | .tBle _ => true
  | .tSwi _ => true
  | .tB _ => true
  | .tBlHi _ => true
  | .tBlLo _ => true

end Sys2Proof
end

