-- ==== Sys2Proof/Decode.lean ====
section
/-! DEFINITION. The decoder, total on every input, and the encoder written from the same tables (R130 to R154, R531 to
R533). -/

namespace Sys2Proof

/-- Why a halfword has no instruction (R533). -/
inductive DecodeError where
  /-- Unallocated space of formats 13 and 14: `0xB100..0xB3FF`, `0xB600..0xBBFF`, `0xBE00..0xBFFF`. -/
  | unallocatedMisc
  /-- Condition 14 of format 16: `0xDE00..0xDEFF`. -/
  | condition14
  /-- Top bits `11101`: `0xE800..0xEFFF`. -/
  | topBits11101
  /-- `0x4780..0x47FF`, and a BX whose bits 2..0 are not 0. -/
  | badBx
  deriving DecidableEq, Repr

/-- A decoded Thumb halfword, one constructor for each Thumb row of the opcode table (R531). The constructors are those of
`Instr` with the same names; this smaller type exists because compiled Lean code cannot build a constructor with fields past
the 245th of an inductive type, so that the machine, which decodes halfwords as it runs, stays executable. -/
inductive ThumbInstr where
  /-- LSL, format 1 (R536). -/
  | tLslImm (rd : LowReg) (rs : LowReg) (off : BitVec 5)
  /-- LSR, format 1 (R537). -/
  | tLsrImm (rd : LowReg) (rs : LowReg) (off : BitVec 5)
  /-- ASR, format 1 (R538). -/
  | tAsrImm (rd : LowReg) (rs : LowReg) (off : BitVec 5)
  /-- ADD, format 2 (R540). -/
  | tAddReg (rd : LowReg) (rs : LowReg) (rn : LowReg)
  /-- SUB, format 2 (R541). -/
  | tSubReg (rd : LowReg) (rs : LowReg) (rn : LowReg)
  /-- ADD, format 2 (R542). -/
  | tAddImm3 (rd : LowReg) (rs : LowReg) (imm : BitVec 3)
  /-- SUB, format 2 (R543). -/
  | tSubImm3 (rd : LowReg) (rs : LowReg) (imm : BitVec 3)
  /-- MOV, format 3 (R545). -/
  | tMovImm (rd : LowReg) (imm : Byte)
  /-- CMP, format 3 (R546). -/
  | tCmpImm (rd : LowReg) (imm : Byte)
  /-- ADD, format 3 (R547). -/
  | tAddImm8 (rd : LowReg) (imm : Byte)
  /-- SUB, format 3 (R548). -/
  | tSubImm8 (rd : LowReg) (imm : Byte)
  /-- AND, format 4 (R550). -/
  | tAnd (rd : LowReg) (rs : LowReg)
  /-- EOR, format 4 (R551). -/
  | tEor (rd : LowReg) (rs : LowReg)
  /-- LSL, format 4 (R552). -/
  | tLslReg (rd : LowReg) (rs : LowReg)
  /-- LSR, format 4 (R553). -/
  | tLsrReg (rd : LowReg) (rs : LowReg)
  /-- ASR, format 4 (R554). -/
  | tAsrReg (rd : LowReg) (rs : LowReg)
  /-- ADC, format 4 (R555). -/
  | tAdc (rd : LowReg) (rs : LowReg)
  /-- SBC, format 4 (R556). -/
  | tSbc (rd : LowReg) (rs : LowReg)
  /-- ROR, format 4 (R557). -/
  | tRorReg (rd : LowReg) (rs : LowReg)
  /-- TST, format 4 (R558). -/
  | tTst (rd : LowReg) (rs : LowReg)
  /-- NEG, format 4 (R559). -/
  | tNeg (rd : LowReg) (rs : LowReg)
  /-- CMP, format 4 (R560). -/
  | tCmpReg (rd : LowReg) (rs : LowReg)
  /-- CMN, format 4 (R561). -/
  | tCmn (rd : LowReg) (rs : LowReg)
  /-- ORR, format 4 (R562). -/
  | tOrr (rd : LowReg) (rs : LowReg)
  /-- MUL, format 4 (R563). -/
  | tMul (rd : LowReg) (rs : LowReg)
  /-- BIC, format 4 (R564). -/
  | tBic (rd : LowReg) (rs : LowReg)
  /-- MVN, format 4 (R565). -/
  | tMvn (rd : LowReg) (rs : LowReg)
  /-- ADD, format 5 (R566). -/
  | tAddHi (rd : AnyReg) (rs : AnyReg)
  /-- CMP, format 5 (R567). -/
  | tCmpHi (rd : AnyReg) (rs : AnyReg)
  /-- MOV, format 5 (R568). -/
  | tMovHi (rd : AnyReg) (rs : AnyReg)
  /-- BX, format 5 (R569). -/
  | tBx (rs : AnyReg)
  /-- LDR, format 6 (R570). -/
  | tLdrPc (rd : LowReg) (imm : Byte)
  /-- STR, format 7 (R571). -/
  | tStrReg (rd : LowReg) (rb : LowReg) (ro : LowReg)
  /-- STRB, format 7 (R572). -/
  | tStrbReg (rd : LowReg) (rb : LowReg) (ro : LowReg)
  /-- LDR, format 7 (R573). -/
  | tLdrReg (rd : LowReg) (rb : LowReg) (ro : LowReg)
  /-- LDRB, format 7 (R574). -/
  | tLdrbReg (rd : LowReg) (rb : LowReg) (ro : LowReg)
  /-- STRH, format 8 (R575). -/
  | tStrhReg (rd : LowReg) (rb : LowReg) (ro : LowReg)
  /-- LDRH, format 8 (R576). -/
  | tLdrhReg (rd : LowReg) (rb : LowReg) (ro : LowReg)
  /-- LDSB, format 8 (R577). -/
  | tLdsbReg (rd : LowReg) (rb : LowReg) (ro : LowReg)
  /-- LDSH, format 8 (R578). -/
  | tLdshReg (rd : LowReg) (rb : LowReg) (ro : LowReg)
  /-- STR, format 9 (R579). -/
  | tStrImm (rd : LowReg) (rb : LowReg) (off : BitVec 5)
  /-- LDR, format 9 (R580). -/
  | tLdrImm (rd : LowReg) (rb : LowReg) (off : BitVec 5)
  /-- STRB, format 9 (R581). -/
  | tStrbImm (rd : LowReg) (rb : LowReg) (off : BitVec 5)
  /-- LDRB, format 9 (R582). -/
  | tLdrbImm (rd : LowReg) (rb : LowReg) (off : BitVec 5)
  /-- STRH, format 10 (R583). -/
  | tStrhImm (rd : LowReg) (rb : LowReg) (off : BitVec 5)
  /-- LDRH, format 10 (R584). -/
  | tLdrhImm (rd : LowReg) (rb : LowReg) (off : BitVec 5)
  /-- STR, format 11 (R585). -/
  | tStrSp (rd : LowReg) (imm : Byte)
  /-- LDR, format 11 (R586). -/
  | tLdrSp (rd : LowReg) (imm : Byte)
  /-- ADD, format 12 (R587). -/
  | tAddPc (rd : LowReg) (imm : Byte)
  /-- ADD, format 12 (R588). -/
  | tAddSp (rd : LowReg) (imm : Byte)
  /-- ADD, format 13 (R589). -/
  | tAddSpImm (imm : BitVec 7)
  /-- SUB, format 13 (R590). -/
  | tSubSpImm (imm : BitVec 7)
  /-- PUSH, format 14 (R591). -/
  | tPush (r : BitVec 1) (list : Byte)
  /-- POP, format 14 (R592). -/
  | tPop (r : BitVec 1) (list : Byte)
  /-- STMIA, format 15 (R593). -/
  | tStmia (rb : LowReg) (list : Byte)
  /-- LDMIA, format 15 (R594). -/
  | tLdmia (rb : LowReg) (list : Byte)
  /-- BEQ, format 16 (R595). -/
  | tBeq (off : Byte)
  /-- BNE, format 16 (R595). -/
  | tBne (off : Byte)
  /-- BCS, format 16 (R595). -/
  | tBcs (off : Byte)
  /-- BCC, format 16 (R595). -/
  | tBcc (off : Byte)
  /-- BMI, format 16 (R595). -/
  | tBmi (off : Byte)
  /-- BPL, format 16 (R595). -/
  | tBpl (off : Byte)
  /-- BVS, format 16 (R595). -/
  | tBvs (off : Byte)
  /-- BVC, format 16 (R595). -/
  | tBvc (off : Byte)
  /-- BHI, format 16 (R595). -/
  | tBhi (off : Byte)
  /-- BLS, format 16 (R595). -/
  | tBls (off : Byte)
  /-- BGE, format 16 (R595). -/
  | tBge (off : Byte)
  /-- BLT, format 16 (R595). -/
  | tBlt (off : Byte)
  /-- BGT, format 16 (R595). -/
  | tBgt (off : Byte)
  /-- BLE, format 16 (R595). -/
  | tBle (off : Byte)
  /-- SWI, format 17 (R596). -/
  | tSwi (imm : Byte)
  /-- B, format 18 (R597). -/
  | tB (off : BitVec 11)
  /-- BL, format 19 (R601). -/
  | tBlHi (off : BitVec 11)
  /-- BL, format 19 (R602). -/
  | tBlLo (off : BitVec 11)
  deriving DecidableEq, Repr

/-- The row of the opcode table that a decoded halfword is. -/
noncomputable def ThumbInstr.toInstr : ThumbInstr → Instr
  | .tLslImm rd rs off => .tLslImm rd rs off
  | .tLsrImm rd rs off => .tLsrImm rd rs off
  | .tAsrImm rd rs off => .tAsrImm rd rs off
  | .tAddReg rd rs rn => .tAddReg rd rs rn
  | .tSubReg rd rs rn => .tSubReg rd rs rn
  | .tAddImm3 rd rs imm => .tAddImm3 rd rs imm
  | .tSubImm3 rd rs imm => .tSubImm3 rd rs imm
  | .tMovImm rd imm => .tMovImm rd imm
  | .tCmpImm rd imm => .tCmpImm rd imm
  | .tAddImm8 rd imm => .tAddImm8 rd imm
  | .tSubImm8 rd imm => .tSubImm8 rd imm
  | .tAnd rd rs => .tAnd rd rs
  | .tEor rd rs => .tEor rd rs
  | .tLslReg rd rs => .tLslReg rd rs
  | .tLsrReg rd rs => .tLsrReg rd rs
  | .tAsrReg rd rs => .tAsrReg rd rs
  | .tAdc rd rs => .tAdc rd rs
  | .tSbc rd rs => .tSbc rd rs
  | .tRorReg rd rs => .tRorReg rd rs
  | .tTst rd rs => .tTst rd rs
  | .tNeg rd rs => .tNeg rd rs
  | .tCmpReg rd rs => .tCmpReg rd rs
  | .tCmn rd rs => .tCmn rd rs
  | .tOrr rd rs => .tOrr rd rs
  | .tMul rd rs => .tMul rd rs
  | .tBic rd rs => .tBic rd rs
  | .tMvn rd rs => .tMvn rd rs
  | .tAddHi rd rs => .tAddHi rd rs
  | .tCmpHi rd rs => .tCmpHi rd rs
  | .tMovHi rd rs => .tMovHi rd rs
  | .tBx rs => .tBx rs
  | .tLdrPc rd imm => .tLdrPc rd imm
  | .tStrReg rd rb ro => .tStrReg rd rb ro
  | .tStrbReg rd rb ro => .tStrbReg rd rb ro
  | .tLdrReg rd rb ro => .tLdrReg rd rb ro
  | .tLdrbReg rd rb ro => .tLdrbReg rd rb ro
  | .tStrhReg rd rb ro => .tStrhReg rd rb ro
  | .tLdrhReg rd rb ro => .tLdrhReg rd rb ro
  | .tLdsbReg rd rb ro => .tLdsbReg rd rb ro
  | .tLdshReg rd rb ro => .tLdshReg rd rb ro
  | .tStrImm rd rb off => .tStrImm rd rb off
  | .tLdrImm rd rb off => .tLdrImm rd rb off
  | .tStrbImm rd rb off => .tStrbImm rd rb off
  | .tLdrbImm rd rb off => .tLdrbImm rd rb off
  | .tStrhImm rd rb off => .tStrhImm rd rb off
  | .tLdrhImm rd rb off => .tLdrhImm rd rb off
  | .tStrSp rd imm => .tStrSp rd imm
  | .tLdrSp rd imm => .tLdrSp rd imm
  | .tAddPc rd imm => .tAddPc rd imm
  | .tAddSp rd imm => .tAddSp rd imm
  | .tAddSpImm imm => .tAddSpImm imm
  | .tSubSpImm imm => .tSubSpImm imm
  | .tPush r list => .tPush r list
  | .tPop r list => .tPop r list
  | .tStmia rb list => .tStmia rb list
  | .tLdmia rb list => .tLdmia rb list
  | .tBeq off => .tBeq off
  | .tBne off => .tBne off
  | .tBcs off => .tBcs off
  | .tBcc off => .tBcc off
  | .tBmi off => .tBmi off
  | .tBpl off => .tBpl off
  | .tBvs off => .tBvs off
  | .tBvc off => .tBvc off
  | .tBhi off => .tBhi off
  | .tBls off => .tBls off
  | .tBge off => .tBge off
  | .tBlt off => .tBlt off
  | .tBgt off => .tBgt off
  | .tBle off => .tBle off
  | .tSwi imm => .tSwi imm
  | .tB off => .tB off
  | .tBlHi off => .tBlHi off
  | .tBlLo off => .tBlLo off

/-- What an opcode byte selects: the instruction as a function of the two bytes that follow it. -/
abbrev OpEntry := Byte → Byte → Instr

/-- Row `0x` of the opcode matrix R147. -/
def opRow0 : List OpEntry :=
  [fun _ _ => .brk, fun b1 _ => .oraIzx b1,
   fun _ _ => .jam02, fun b1 _ => .sloIzx b1,
   fun b1 _ => .nopZp04 b1, fun b1 _ => .oraZp b1,
   fun b1 _ => .aslZp b1, fun b1 _ => .sloZp b1,
   fun _ _ => .php, fun b1 _ => .oraImm b1,
   fun _ _ => .aslAcc, fun b1 _ => .ancImm0B b1,
   fun b1 b2 => .nopAbs b1 b2, fun b1 b2 => .oraAbs b1 b2,
   fun b1 b2 => .aslAbs b1 b2, fun b1 b2 => .sloAbs b1 b2]

/-- Row `1x` of the opcode matrix R147. -/
def opRow1 : List OpEntry :=
  [fun b1 _ => .bpl b1, fun b1 _ => .oraIzy b1,
   fun _ _ => .jam12, fun b1 _ => .sloIzy b1,
   fun b1 _ => .nopZpx14 b1, fun b1 _ => .oraZpx b1,
   fun b1 _ => .aslZpx b1, fun b1 _ => .sloZpx b1,
   fun _ _ => .clc, fun b1 b2 => .oraAby b1 b2,
   fun _ _ => .nop1A, fun b1 b2 => .sloAby b1 b2,
   fun b1 b2 => .nopAbx1C b1 b2, fun b1 b2 => .oraAbx b1 b2,
   fun b1 b2 => .aslAbx b1 b2, fun b1 b2 => .sloAbx b1 b2]

/-- Row `2x` of the opcode matrix R147. -/
def opRow2 : List OpEntry :=
  [fun b1 b2 => .jsrAbs b1 b2, fun b1 _ => .andIzx b1,
   fun _ _ => .jam22, fun b1 _ => .rlaIzx b1,
   fun b1 _ => .bitZp b1, fun b1 _ => .andZp b1,
   fun b1 _ => .rolZp b1, fun b1 _ => .rlaZp b1,
   fun _ _ => .plp, fun b1 _ => .andImm b1,
   fun _ _ => .rolAcc, fun b1 _ => .ancImm2B b1,
   fun b1 b2 => .bitAbs b1 b2, fun b1 b2 => .andAbs b1 b2,
   fun b1 b2 => .rolAbs b1 b2, fun b1 b2 => .rlaAbs b1 b2]

/-- Row `3x` of the opcode matrix R147. -/
def opRow3 : List OpEntry :=
  [fun b1 _ => .bmi b1, fun b1 _ => .andIzy b1,
   fun _ _ => .jam32, fun b1 _ => .rlaIzy b1,
   fun b1 _ => .nopZpx34 b1, fun b1 _ => .andZpx b1,
   fun b1 _ => .rolZpx b1, fun b1 _ => .rlaZpx b1,
   fun _ _ => .sec, fun b1 b2 => .andAby b1 b2,
   fun _ _ => .nop3A, fun b1 b2 => .rlaAby b1 b2,
   fun b1 b2 => .nopAbx3C b1 b2, fun b1 b2 => .andAbx b1 b2,
   fun b1 b2 => .rolAbx b1 b2, fun b1 b2 => .rlaAbx b1 b2]

/-- Row `4x` of the opcode matrix R147. -/
def opRow4 : List OpEntry :=
  [fun _ _ => .rti, fun b1 _ => .eorIzx b1,
   fun _ _ => .jam42, fun b1 _ => .sreIzx b1,
   fun b1 _ => .nopZp44 b1, fun b1 _ => .eorZp b1,
   fun b1 _ => .lsrZp b1, fun b1 _ => .sreZp b1,
   fun _ _ => .pha, fun b1 _ => .eorImm b1,
   fun _ _ => .lsrAcc, fun b1 _ => .alrImm b1,
   fun b1 b2 => .jmpAbs b1 b2, fun b1 b2 => .eorAbs b1 b2,
   fun b1 b2 => .lsrAbs b1 b2, fun b1 b2 => .sreAbs b1 b2]

/-- Row `5x` of the opcode matrix R147. -/
def opRow5 : List OpEntry :=
  [fun b1 _ => .bvc b1, fun b1 _ => .eorIzy b1,
   fun _ _ => .jam52, fun b1 _ => .sreIzy b1,
   fun b1 _ => .nopZpx54 b1, fun b1 _ => .eorZpx b1,
   fun b1 _ => .lsrZpx b1, fun b1 _ => .sreZpx b1,
   fun _ _ => .cli, fun b1 b2 => .eorAby b1 b2,
   fun _ _ => .nop5A, fun b1 b2 => .sreAby b1 b2,
   fun b1 b2 => .nopAbx5C b1 b2, fun b1 b2 => .eorAbx b1 b2,
   fun b1 b2 => .lsrAbx b1 b2, fun b1 b2 => .sreAbx b1 b2]

/-- Row `6x` of the opcode matrix R147. -/
def opRow6 : List OpEntry :=
  [fun _ _ => .rts, fun b1 _ => .adcIzx b1,
   fun _ _ => .jam62, fun b1 _ => .rraIzx b1,
   fun b1 _ => .nopZp64 b1, fun b1 _ => .adcZp b1,
   fun b1 _ => .rorZp b1, fun b1 _ => .rraZp b1,
   fun _ _ => .pla, fun b1 _ => .adcImm b1,
   fun _ _ => .rorAcc, fun b1 _ => .arrImm b1,
   fun b1 b2 => .jmpInd b1 b2, fun b1 b2 => .adcAbs b1 b2,
   fun b1 b2 => .rorAbs b1 b2, fun b1 b2 => .rraAbs b1 b2]

/-- Row `7x` of the opcode matrix R147. -/
def opRow7 : List OpEntry :=
  [fun b1 _ => .bvs b1, fun b1 _ => .adcIzy b1,
   fun _ _ => .jam72, fun b1 _ => .rraIzy b1,
   fun b1 _ => .nopZpx74 b1, fun b1 _ => .adcZpx b1,
   fun b1 _ => .rorZpx b1, fun b1 _ => .rraZpx b1,
   fun _ _ => .sei, fun b1 b2 => .adcAby b1 b2,
   fun _ _ => .nop7A, fun b1 b2 => .rraAby b1 b2,
   fun b1 b2 => .nopAbx7C b1 b2, fun b1 b2 => .adcAbx b1 b2,
   fun b1 b2 => .rorAbx b1 b2, fun b1 b2 => .rraAbx b1 b2]

/-- Row `8x` of the opcode matrix R147. -/
def opRow8 : List OpEntry :=
  [fun b1 _ => .nopImm80 b1, fun b1 _ => .staIzx b1,
   fun b1 _ => .nopImm82 b1, fun b1 _ => .saxIzx b1,
   fun b1 _ => .styZp b1, fun b1 _ => .staZp b1,
   fun b1 _ => .stxZp b1, fun b1 _ => .saxZp b1,
   fun _ _ => .dey, fun b1 _ => .nopImm89 b1,
   fun _ _ => .txa, fun b1 _ => .aneImm b1,
   fun b1 b2 => .styAbs b1 b2, fun b1 b2 => .staAbs b1 b2,
   fun b1 b2 => .stxAbs b1 b2, fun b1 b2 => .saxAbs b1 b2]

/-- Row `9x` of the opcode matrix R147. -/
def opRow9 : List OpEntry :=
  [fun b1 _ => .bcc b1, fun b1 _ => .staIzy b1,
   fun _ _ => .jam92, fun b1 _ => .shaIzy b1,
   fun b1 _ => .styZpx b1, fun b1 _ => .staZpx b1,
   fun b1 _ => .stxZpy b1, fun b1 _ => .saxZpy b1,
   fun _ _ => .tya, fun b1 b2 => .staAby b1 b2,
   fun _ _ => .txs, fun b1 b2 => .tasAby b1 b2,
   fun b1 b2 => .shyAbx b1 b2, fun b1 b2 => .staAbx b1 b2,
   fun b1 b2 => .shxAby b1 b2, fun b1 b2 => .shaAby b1 b2]

/-- Row `Ax` of the opcode matrix R147. -/
def opRowA : List OpEntry :=
  [fun b1 _ => .ldyImm b1, fun b1 _ => .ldaIzx b1,
   fun b1 _ => .ldxImm b1, fun b1 _ => .laxIzx b1,
   fun b1 _ => .ldyZp b1, fun b1 _ => .ldaZp b1,
   fun b1 _ => .ldxZp b1, fun b1 _ => .laxZp b1,
   fun _ _ => .tay, fun b1 _ => .ldaImm b1,
   fun _ _ => .tax, fun b1 _ => .lxaImm b1,
   fun b1 b2 => .ldyAbs b1 b2, fun b1 b2 => .ldaAbs b1 b2,
   fun b1 b2 => .ldxAbs b1 b2, fun b1 b2 => .laxAbs b1 b2]

/-- Row `Bx` of the opcode matrix R147. -/
def opRowB : List OpEntry :=
  [fun b1 _ => .bcs b1, fun b1 _ => .ldaIzy b1,
   fun _ _ => .jamB2, fun b1 _ => .laxIzy b1,
   fun b1 _ => .ldyZpx b1, fun b1 _ => .ldaZpx b1,
   fun b1 _ => .ldxZpy b1, fun b1 _ => .laxZpy b1,
   fun _ _ => .clv, fun b1 b2 => .ldaAby b1 b2,
   fun _ _ => .tsx, fun b1 b2 => .lasAby b1 b2,
   fun b1 b2 => .ldyAbx b1 b2, fun b1 b2 => .ldaAbx b1 b2,
   fun b1 b2 => .ldxAby b1 b2, fun b1 b2 => .laxAby b1 b2]

/-- Row `Cx` of the opcode matrix R147. -/
def opRowC : List OpEntry :=
  [fun b1 _ => .cpyImm b1, fun b1 _ => .cmpIzx b1,
   fun b1 _ => .nopImmC2 b1, fun b1 _ => .dcpIzx b1,
   fun b1 _ => .cpyZp b1, fun b1 _ => .cmpZp b1,
   fun b1 _ => .decZp b1, fun b1 _ => .dcpZp b1,
   fun _ _ => .iny, fun b1 _ => .cmpImm b1,
   fun _ _ => .dex, fun b1 _ => .sbxImm b1,
   fun b1 b2 => .cpyAbs b1 b2, fun b1 b2 => .cmpAbs b1 b2,
   fun b1 b2 => .decAbs b1 b2, fun b1 b2 => .dcpAbs b1 b2]

/-- Row `Dx` of the opcode matrix R147. -/
def opRowD : List OpEntry :=
  [fun b1 _ => .bne b1, fun b1 _ => .cmpIzy b1,
   fun _ _ => .jamD2, fun b1 _ => .dcpIzy b1,
   fun b1 _ => .nopZpxD4 b1, fun b1 _ => .cmpZpx b1,
   fun b1 _ => .decZpx b1, fun b1 _ => .dcpZpx b1,
   fun _ _ => .cld, fun b1 b2 => .cmpAby b1 b2,
   fun _ _ => .nopDA, fun b1 b2 => .dcpAby b1 b2,
   fun b1 b2 => .nopAbxDC b1 b2, fun b1 b2 => .cmpAbx b1 b2,
   fun b1 b2 => .decAbx b1 b2, fun b1 b2 => .dcpAbx b1 b2]

/-- Row `Ex` of the opcode matrix R147. -/
def opRowE : List OpEntry :=
  [fun b1 _ => .cpxImm b1, fun b1 _ => .sbcIzx b1,
   fun b1 _ => .nopImmE2 b1, fun b1 _ => .iscIzx b1,
   fun b1 _ => .cpxZp b1, fun b1 _ => .sbcZp b1,
   fun b1 _ => .incZp b1, fun b1 _ => .iscZp b1,
   fun _ _ => .inx, fun b1 _ => .sbcImm b1,
   fun _ _ => .nop, fun b1 _ => .sbcImmEB b1,
   fun b1 b2 => .cpxAbs b1 b2, fun b1 b2 => .sbcAbs b1 b2,
   fun b1 b2 => .incAbs b1 b2, fun b1 b2 => .iscAbs b1 b2]

/-- Row `Fx` of the opcode matrix R147. -/
def opRowF : List OpEntry :=
  [fun b1 _ => .beq b1, fun b1 _ => .sbcIzy b1,
   fun _ _ => .jamF2, fun b1 _ => .iscIzy b1,
   fun b1 _ => .nopZpxF4 b1, fun b1 _ => .sbcZpx b1,
   fun b1 _ => .incZpx b1, fun b1 _ => .iscZpx b1,
   fun _ _ => .sed, fun b1 b2 => .sbcAby b1 b2,
   fun _ _ => .nopFA, fun b1 b2 => .iscAby b1 b2,
   fun b1 b2 => .nopAbxFC b1 b2, fun b1 b2 => .sbcAbx b1 b2,
   fun b1 b2 => .incAbx b1 b2, fun b1 b2 => .iscAbx b1 b2]

/-- The opcode matrix R147, by high nibble and then low nibble. -/
def opMatrix : List (List OpEntry) :=
  [opRow0, opRow1, opRow2, opRow3, opRow4, opRow5, opRow6, opRow7,
   opRow8, opRow9, opRowA, opRowB, opRowC, opRowD, opRowE, opRowF]

/-- The 6507 decoder: a total function of the opcode byte (R133), the operand bytes filled in (R131). -/
def decode6507 (b0 b1 b2 : Byte) : Instr :=
  ((opMatrix.getD (b0.toNat / 16) []).getD (b0.toNat % 16) (fun _ _ => .nop)) b1 b2

/-- The three-bit register or count field whose lowest bit is bit `lo` of a halfword (R532). -/
def bits3 (w lo : Nat) : BitVec 3 := BitVec.ofNat 3 (w / 2 ^ lo)

/-- The five-bit field `off5`, bits 10..6 (R532). -/
def bits5 (w : Nat) : BitVec 5 := BitVec.ofNat 5 (w / 64)

/-- The seven-bit field `imm7`, bits 6..0 (R532). -/
def bits7 (w : Nat) : BitVec 7 := BitVec.ofNat 7 w

/-- The eight-bit fields `imm8`, `soff8`, `list8`, bits 7..0 (R532). -/
def bits8 (w : Nat) : Byte := BitVec.ofNat 8 w

/-- The eleven-bit field `off11`, bits 10..0 (R532). -/
def bits11 (w : Nat) : BitVec 11 := BitVec.ofNat 11 w

/-- The format 5 destination `H1 ++ Rd`: bit 7, then bits 2..0 (R532). -/
def hiRd (w : Nat) : AnyReg := BitVec.ofNat 4 (w / 128 % 2 * 8 + w % 8)

/-- The format 5 source `H2 ++ Rs`: bits 6..3 (R532). -/
def hiRs (w : Nat) : AnyReg := BitVec.ofNat 4 (w / 8)

/-- Format 4 by its operation field, bits 9..6 (R531, R550 to R565). -/
def decodeAlu (w : Nat) : ThumbInstr :=
  match w / 64 % 16 with
  | 0 => .tAnd (bits3 w 0) (bits3 w 3)
  | 1 => .tEor (bits3 w 0) (bits3 w 3)
  | 2 => .tLslReg (bits3 w 0) (bits3 w 3)
  | 3 => .tLsrReg (bits3 w 0) (bits3 w 3)
  | 4 => .tAsrReg (bits3 w 0) (bits3 w 3)
  | 5 => .tAdc (bits3 w 0) (bits3 w 3)
  | 6 => .tSbc (bits3 w 0) (bits3 w 3)
  | 7 => .tRorReg (bits3 w 0) (bits3 w 3)
  | 8 => .tTst (bits3 w 0) (bits3 w 3)
  | 9 => .tNeg (bits3 w 0) (bits3 w 3)
  | 10 => .tCmpReg (bits3 w 0) (bits3 w 3)
  | 11 => .tCmn (bits3 w 0) (bits3 w 3)
  | 12 => .tOrr (bits3 w 0) (bits3 w 3)
  | 13 => .tMul (bits3 w 0) (bits3 w 3)
  | 14 => .tBic (bits3 w 0) (bits3 w 3)
  | _ => .tMvn (bits3 w 0) (bits3 w 3)

/-- Format 5 by bits 9..8; BX needs bit 7 and bits 2..0 clear (R531, R533, R566 to R569). -/
def decodeHigh (w : Nat) : Except DecodeError ThumbInstr :=
  match w / 256 % 4 with
  | 0 => .ok (.tAddHi (hiRd w) (hiRs w))
  | 1 => .ok (.tCmpHi (hiRd w) (hiRs w))
  | 2 => .ok (.tMovHi (hiRd w) (hiRs w))
  | _ => if w / 128 % 2 = 0 ∧ w % 8 = 0 then .ok (.tBx (hiRs w)) else .error .badBx

/-- Formats 7 and 8 by bits 11..9 (R531, R571 to R578). -/
def decodeRegOffset (w : Nat) : ThumbInstr :=
  match w / 512 % 8 with
  | 0 => .tStrReg (bits3 w 0) (bits3 w 3) (bits3 w 6)
  | 1 => .tStrhReg (bits3 w 0) (bits3 w 3) (bits3 w 6)
  | 2 => .tStrbReg (bits3 w 0) (bits3 w 3) (bits3 w 6)
  | 3 => .tLdsbReg (bits3 w 0) (bits3 w 3) (bits3 w 6)
  | 4 => .tLdrReg (bits3 w 0) (bits3 w 3) (bits3 w 6)
  | 5 => .tLdrhReg (bits3 w 0) (bits3 w 3) (bits3 w 6)
  | 6 => .tLdrbReg (bits3 w 0) (bits3 w 3) (bits3 w 6)
  | _ => .tLdshReg (bits3 w 0) (bits3 w 3) (bits3 w 6)

/-- Formats 13 and 14 by bits 11..8; every other value is unallocated (R531, R533, R589 to R592). -/
def decodeMisc (w : Nat) : Except DecodeError ThumbInstr :=
  match w / 256 % 16 with
  | 0 => .ok (if w / 128 % 2 = 0 then .tAddSpImm (bits7 w) else .tSubSpImm (bits7 w))
  | 4 => .ok (.tPush 0 (bits8 w))
  | 5 => .ok (.tPush 1 (bits8 w))
  | 12 => .ok (.tPop 0 (bits8 w))
  | 13 => .ok (.tPop 1 (bits8 w))
  | _ => .error .unallocatedMisc

/-- Formats 16 and 17 by the condition field, bits 11..8 (R531, R535, R595, R596). -/
def decodeCond (w : Nat) : Except DecodeError ThumbInstr :=
  match w / 256 % 16 with
  | 0 => .ok (.tBeq (bits8 w))
  | 1 => .ok (.tBne (bits8 w))
  | 2 => .ok (.tBcs (bits8 w))
  | 3 => .ok (.tBcc (bits8 w))
  | 4 => .ok (.tBmi (bits8 w))
  | 5 => .ok (.tBpl (bits8 w))
  | 6 => .ok (.tBvs (bits8 w))
  | 7 => .ok (.tBvc (bits8 w))
  | 8 => .ok (.tBhi (bits8 w))
  | 9 => .ok (.tBls (bits8 w))
  | 10 => .ok (.tBge (bits8 w))
  | 11 => .ok (.tBlt (bits8 w))
  | 12 => .ok (.tBgt (bits8 w))
  | 13 => .ok (.tBle (bits8 w))
  | 14 => .error .condition14
  | _ => .ok (.tSwi (bits8 w))

/-- Format 2 by bits 10..9 (R531, R540 to R543). -/
def decodeAddSub (w : Nat) : ThumbInstr :=
  match w / 512 % 4 with
  | 0 => .tAddReg (bits3 w 0) (bits3 w 3) (bits3 w 6)
  | 1 => .tSubReg (bits3 w 0) (bits3 w 3) (bits3 w 6)
  | 2 => .tAddImm3 (bits3 w 0) (bits3 w 3) (bits3 w 6)
  | _ => .tSubImm3 (bits3 w 0) (bits3 w 3) (bits3 w 6)

/-- The Thumb decoder: total, by the top five bits of the halfword (R531 to R533). -/
def decodeHalf (hw : Half) : Except DecodeError ThumbInstr :=
  let w := hw.toNat
  match w / 2048 with
  | 0 => .ok (.tLslImm (bits3 w 0) (bits3 w 3) (bits5 w))
  | 1 => .ok (.tLsrImm (bits3 w 0) (bits3 w 3) (bits5 w))
  | 2 => .ok (.tAsrImm (bits3 w 0) (bits3 w 3) (bits5 w))
  | 3 => .ok (decodeAddSub w)
  | 4 => .ok (.tMovImm (bits3 w 8) (bits8 w))
  | 5 => .ok (.tCmpImm (bits3 w 8) (bits8 w))
  | 6 => .ok (.tAddImm8 (bits3 w 8) (bits8 w))
  | 7 => .ok (.tSubImm8 (bits3 w 8) (bits8 w))
  | 8 => if w / 1024 % 2 = 0 then .ok (decodeAlu w) else decodeHigh w
  | 9 => .ok (.tLdrPc (bits3 w 8) (bits8 w))
  | 10 => .ok (decodeRegOffset w)
  | 11 => .ok (decodeRegOffset w)
  | 12 => .ok (.tStrImm (bits3 w 0) (bits3 w 3) (bits5 w))
  | 13 => .ok (.tLdrImm (bits3 w 0) (bits3 w 3) (bits5 w))
  | 14 => .ok (.tStrbImm (bits3 w 0) (bits3 w 3) (bits5 w))
  | 15 => .ok (.tLdrbImm (bits3 w 0) (bits3 w 3) (bits5 w))
  | 16 => .ok (.tStrhImm (bits3 w 0) (bits3 w 3) (bits5 w))
  | 17 => .ok (.tLdrhImm (bits3 w 0) (bits3 w 3) (bits5 w))
  | 18 => .ok (.tStrSp (bits3 w 8) (bits8 w))
  | 19 => .ok (.tLdrSp (bits3 w 8) (bits8 w))
  | 20 => .ok (.tAddPc (bits3 w 8) (bits8 w))
  | 21 => .ok (.tAddSp (bits3 w 8) (bits8 w))
  | 22 => decodeMisc w
  | 23 => decodeMisc w
  | 24 => .ok (.tStmia (bits3 w 8) (bits8 w))
  | 25 => .ok (.tLdmia (bits3 w 8) (bits8 w))
  | 26 => decodeCond w
  | 27 => decodeCond w
  | 28 => .ok (.tB (bits11 w))
  | 29 => .error .topBits11101
  | 30 => .ok (.tBlHi (bits11 w))
  | _ => .ok (.tBlLo (bits11 w))

/-- The decoding of a halfword as a row of the opcode table. -/
noncomputable def decodeThumb (hw : Half) : Except DecodeError Instr :=
  match decodeHalf hw with
  | .ok i => .ok i.toInstr
  | .error e => .error e

/-- A halfword as memory holds it: little-endian (R108). -/
def halfBytes (w : Nat) : List Byte := [BitVec.ofNat 8 w, BitVec.ofNat 8 (w / 256)]

/-- The halfword `a + b * 2^lo` over a format's fixed bits: three fields at bits 0, 3 and 6 (formats 1, 2, 7 to 10). -/
def encRRR (fixed : Nat) (f0 f3 : LowReg) (f6 : Nat) : List Byte :=
  halfBytes (fixed + f6 * 64 + f3.toNat * 8 + f0.toNat)

/-- Fixed bits, a register at bits 10..8 and eight bits (formats 3, 6, 11, 12, 15). -/
def encR8 (fixed : Nat) (r : LowReg) (v : Byte) : List Byte :=
  halfBytes (fixed + r.toNat * 256 + v.toNat)

/-- Fixed bits and a low field (formats 13 to 14, 16 to 19). -/
def encLow (fixed v : Nat) : List Byte := halfBytes (fixed + v)

/-- Format 5: `H1` at bit 7, `H2 ++ Rs` at bits 6..3, `Rd` at bits 2..0. -/
def encHigh (fixed : Nat) (rd rs : AnyReg) : List Byte :=
  halfBytes (fixed + rd.toNat / 8 * 128 + rs.toNat * 8 + rd.toNat % 8)

/-- The encoder: the bytes of an instruction, first byte at the lowest address (R131, R147, R531, R532). -/
def encode : Instr → List Byte
  | .brk => [0x00]
  | .oraIzx b1 => [0x01, b1]
  | .jam02 => [0x02]
  | .sloIzx b1 => [0x03, b1]
  | .nopZp04 b1 => [0x04, b1]
  | .oraZp b1 => [0x05, b1]
  | .aslZp b1 => [0x06, b1]
  | .sloZp b1 => [0x07, b1]
  | .php => [0x08]
  | .oraImm b1 => [0x09, b1]
  | .aslAcc => [0x0A]
  | .ancImm0B b1 => [0x0B, b1]
  | .nopAbs b1 b2 => [0x0C, b1, b2]
  | .oraAbs b1 b2 => [0x0D, b1, b2]
  | .aslAbs b1 b2 => [0x0E, b1, b2]
  | .sloAbs b1 b2 => [0x0F, b1, b2]
  | .bpl b1 => [0x10, b1]
  | .oraIzy b1 => [0x11, b1]
  | .jam12 => [0x12]
  | .sloIzy b1 => [0x13, b1]
  | .nopZpx14 b1 => [0x14, b1]
  | .oraZpx b1 => [0x15, b1]
  | .aslZpx b1 => [0x16, b1]
  | .sloZpx b1 => [0x17, b1]
  | .clc => [0x18]
  | .oraAby b1 b2 => [0x19, b1, b2]
  | .nop1A => [0x1A]
  | .sloAby b1 b2 => [0x1B, b1, b2]
  | .nopAbx1C b1 b2 => [0x1C, b1, b2]
  | .oraAbx b1 b2 => [0x1D, b1, b2]
  | .aslAbx b1 b2 => [0x1E, b1, b2]
  | .sloAbx b1 b2 => [0x1F, b1, b2]
  | .jsrAbs b1 b2 => [0x20, b1, b2]
  | .andIzx b1 => [0x21, b1]
  | .jam22 => [0x22]
  | .rlaIzx b1 => [0x23, b1]
  | .bitZp b1 => [0x24, b1]
  | .andZp b1 => [0x25, b1]
  | .rolZp b1 => [0x26, b1]
  | .rlaZp b1 => [0x27, b1]
  | .plp => [0x28]
  | .andImm b1 => [0x29, b1]
  | .rolAcc => [0x2A]
  | .ancImm2B b1 => [0x2B, b1]
  | .bitAbs b1 b2 => [0x2C, b1, b2]
  | .andAbs b1 b2 => [0x2D, b1, b2]
  | .rolAbs b1 b2 => [0x2E, b1, b2]
  | .rlaAbs b1 b2 => [0x2F, b1, b2]
  | .bmi b1 => [0x30, b1]
  | .andIzy b1 => [0x31, b1]
  | .jam32 => [0x32]
  | .rlaIzy b1 => [0x33, b1]
  | .nopZpx34 b1 => [0x34, b1]
  | .andZpx b1 => [0x35, b1]
  | .rolZpx b1 => [0x36, b1]
  | .rlaZpx b1 => [0x37, b1]
  | .sec => [0x38]
  | .andAby b1 b2 => [0x39, b1, b2]
  | .nop3A => [0x3A]
  | .rlaAby b1 b2 => [0x3B, b1, b2]
  | .nopAbx3C b1 b2 => [0x3C, b1, b2]
  | .andAbx b1 b2 => [0x3D, b1, b2]
  | .rolAbx b1 b2 => [0x3E, b1, b2]
  | .rlaAbx b1 b2 => [0x3F, b1, b2]
  | .rti => [0x40]
  | .eorIzx b1 => [0x41, b1]
  | .jam42 => [0x42]
  | .sreIzx b1 => [0x43, b1]
  | .nopZp44 b1 => [0x44, b1]
  | .eorZp b1 => [0x45, b1]
  | .lsrZp b1 => [0x46, b1]
  | .sreZp b1 => [0x47, b1]
  | .pha => [0x48]
  | .eorImm b1 => [0x49, b1]
  | .lsrAcc => [0x4A]
  | .alrImm b1 => [0x4B, b1]
  | .jmpAbs b1 b2 => [0x4C, b1, b2]
  | .eorAbs b1 b2 => [0x4D, b1, b2]
  | .lsrAbs b1 b2 => [0x4E, b1, b2]
  | .sreAbs b1 b2 => [0x4F, b1, b2]
  | .bvc b1 => [0x50, b1]
  | .eorIzy b1 => [0x51, b1]
  | .jam52 => [0x52]
  | .sreIzy b1 => [0x53, b1]
  | .nopZpx54 b1 => [0x54, b1]
  | .eorZpx b1 => [0x55, b1]
  | .lsrZpx b1 => [0x56, b1]
  | .sreZpx b1 => [0x57, b1]
  | .cli => [0x58]
  | .eorAby b1 b2 => [0x59, b1, b2]
  | .nop5A => [0x5A]
  | .sreAby b1 b2 => [0x5B, b1, b2]
  | .nopAbx5C b1 b2 => [0x5C, b1, b2]
  | .eorAbx b1 b2 => [0x5D, b1, b2]
  | .lsrAbx b1 b2 => [0x5E, b1, b2]
  | .sreAbx b1 b2 => [0x5F, b1, b2]
  | .rts => [0x60]
  | .adcIzx b1 => [0x61, b1]
  | .jam62 => [0x62]
  | .rraIzx b1 => [0x63, b1]
  | .nopZp64 b1 => [0x64, b1]
  | .adcZp b1 => [0x65, b1]
  | .rorZp b1 => [0x66, b1]
  | .rraZp b1 => [0x67, b1]
  | .pla => [0x68]
  | .adcImm b1 => [0x69, b1]
  | .rorAcc => [0x6A]
  | .arrImm b1 => [0x6B, b1]
  | .jmpInd b1 b2 => [0x6C, b1, b2]
  | .adcAbs b1 b2 => [0x6D, b1, b2]
  | .rorAbs b1 b2 => [0x6E, b1, b2]
  | .rraAbs b1 b2 => [0x6F, b1, b2]
  | .bvs b1 => [0x70, b1]
  | .adcIzy b1 => [0x71, b1]
  | .jam72 => [0x72]
  | .rraIzy b1 => [0x73, b1]
  | .nopZpx74 b1 => [0x74, b1]
  | .adcZpx b1 => [0x75, b1]
  | .rorZpx b1 => [0x76, b1]
  | .rraZpx b1 => [0x77, b1]
  | .sei => [0x78]
  | .adcAby b1 b2 => [0x79, b1, b2]
  | .nop7A => [0x7A]
  | .rraAby b1 b2 => [0x7B, b1, b2]
  | .nopAbx7C b1 b2 => [0x7C, b1, b2]
  | .adcAbx b1 b2 => [0x7D, b1, b2]
  | .rorAbx b1 b2 => [0x7E, b1, b2]
  | .rraAbx b1 b2 => [0x7F, b1, b2]
  | .nopImm80 b1 => [0x80, b1]
  | .staIzx b1 => [0x81, b1]
  | .nopImm82 b1 => [0x82, b1]
  | .saxIzx b1 => [0x83, b1]
  | .styZp b1 => [0x84, b1]
  | .staZp b1 => [0x85, b1]
  | .stxZp b1 => [0x86, b1]
  | .saxZp b1 => [0x87, b1]
  | .dey => [0x88]
  | .nopImm89 b1 => [0x89, b1]
  | .txa => [0x8A]
  | .aneImm b1 => [0x8B, b1]
  | .styAbs b1 b2 => [0x8C, b1, b2]
  | .staAbs b1 b2 => [0x8D, b1, b2]
  | .stxAbs b1 b2 => [0x8E, b1, b2]
  | .saxAbs b1 b2 => [0x8F, b1, b2]
  | .bcc b1 => [0x90, b1]
  | .staIzy b1 => [0x91, b1]
  | .jam92 => [0x92]
  | .shaIzy b1 => [0x93, b1]
  | .styZpx b1 => [0x94, b1]
  | .staZpx b1 => [0x95, b1]
  | .stxZpy b1 => [0x96, b1]
  | .saxZpy b1 => [0x97, b1]
  | .tya => [0x98]
  | .staAby b1 b2 => [0x99, b1, b2]
  | .txs => [0x9A]
  | .tasAby b1 b2 => [0x9B, b1, b2]
  | .shyAbx b1 b2 => [0x9C, b1, b2]
  | .staAbx b1 b2 => [0x9D, b1, b2]
  | .shxAby b1 b2 => [0x9E, b1, b2]
  | .shaAby b1 b2 => [0x9F, b1, b2]
  | .ldyImm b1 => [0xA0, b1]
  | .ldaIzx b1 => [0xA1, b1]
  | .ldxImm b1 => [0xA2, b1]
  | .laxIzx b1 => [0xA3, b1]
  | .ldyZp b1 => [0xA4, b1]
  | .ldaZp b1 => [0xA5, b1]
  | .ldxZp b1 => [0xA6, b1]
  | .laxZp b1 => [0xA7, b1]
  | .tay => [0xA8]
  | .ldaImm b1 => [0xA9, b1]
  | .tax => [0xAA]
  | .lxaImm b1 => [0xAB, b1]
  | .ldyAbs b1 b2 => [0xAC, b1, b2]
  | .ldaAbs b1 b2 => [0xAD, b1, b2]
  | .ldxAbs b1 b2 => [0xAE, b1, b2]
  | .laxAbs b1 b2 => [0xAF, b1, b2]
  | .bcs b1 => [0xB0, b1]
  | .ldaIzy b1 => [0xB1, b1]
  | .jamB2 => [0xB2]
  | .laxIzy b1 => [0xB3, b1]
  | .ldyZpx b1 => [0xB4, b1]
  | .ldaZpx b1 => [0xB5, b1]
  | .ldxZpy b1 => [0xB6, b1]
  | .laxZpy b1 => [0xB7, b1]
  | .clv => [0xB8]
  | .ldaAby b1 b2 => [0xB9, b1, b2]
  | .tsx => [0xBA]
  | .lasAby b1 b2 => [0xBB, b1, b2]
  | .ldyAbx b1 b2 => [0xBC, b1, b2]
  | .ldaAbx b1 b2 => [0xBD, b1, b2]
  | .ldxAby b1 b2 => [0xBE, b1, b2]
  | .laxAby b1 b2 => [0xBF, b1, b2]
  | .cpyImm b1 => [0xC0, b1]
  | .cmpIzx b1 => [0xC1, b1]
  | .nopImmC2 b1 => [0xC2, b1]
  | .dcpIzx b1 => [0xC3, b1]
  | .cpyZp b1 => [0xC4, b1]
  | .cmpZp b1 => [0xC5, b1]
  | .decZp b1 => [0xC6, b1]
  | .dcpZp b1 => [0xC7, b1]
  | .iny => [0xC8]
  | .cmpImm b1 => [0xC9, b1]
  | .dex => [0xCA]
  | .sbxImm b1 => [0xCB, b1]
  | .cpyAbs b1 b2 => [0xCC, b1, b2]
  | .cmpAbs b1 b2 => [0xCD, b1, b2]
  | .decAbs b1 b2 => [0xCE, b1, b2]
  | .dcpAbs b1 b2 => [0xCF, b1, b2]
  | .bne b1 => [0xD0, b1]
  | .cmpIzy b1 => [0xD1, b1]
  | .jamD2 => [0xD2]
  | .dcpIzy b1 => [0xD3, b1]
  | .nopZpxD4 b1 => [0xD4, b1]
  | .cmpZpx b1 => [0xD5, b1]
  | .decZpx b1 => [0xD6, b1]
  | .dcpZpx b1 => [0xD7, b1]
  | .cld => [0xD8]
  | .cmpAby b1 b2 => [0xD9, b1, b2]
  | .nopDA => [0xDA]
  | .dcpAby b1 b2 => [0xDB, b1, b2]
  | .nopAbxDC b1 b2 => [0xDC, b1, b2]
  | .cmpAbx b1 b2 => [0xDD, b1, b2]
  | .decAbx b1 b2 => [0xDE, b1, b2]
  | .dcpAbx b1 b2 => [0xDF, b1, b2]
  | .cpxImm b1 => [0xE0, b1]
  | .sbcIzx b1 => [0xE1, b1]
  | .nopImmE2 b1 => [0xE2, b1]
  | .iscIzx b1 => [0xE3, b1]
  | .cpxZp b1 => [0xE4, b1]
  | .sbcZp b1 => [0xE5, b1]
  | .incZp b1 => [0xE6, b1]
  | .iscZp b1 => [0xE7, b1]
  | .inx => [0xE8]
  | .sbcImm b1 => [0xE9, b1]
  | .nop => [0xEA]
  | .sbcImmEB b1 => [0xEB, b1]
  | .cpxAbs b1 b2 => [0xEC, b1, b2]
  | .sbcAbs b1 b2 => [0xED, b1, b2]
  | .incAbs b1 b2 => [0xEE, b1, b2]
  | .iscAbs b1 b2 => [0xEF, b1, b2]
  | .beq b1 => [0xF0, b1]
  | .sbcIzy b1 => [0xF1, b1]
  | .jamF2 => [0xF2]
  | .iscIzy b1 => [0xF3, b1]
  | .nopZpxF4 b1 => [0xF4, b1]
  | .sbcZpx b1 => [0xF5, b1]
  | .incZpx b1 => [0xF6, b1]
  | .iscZpx b1 => [0xF7, b1]
  | .sed => [0xF8]
  | .sbcAby b1 b2 => [0xF9, b1, b2]
  | .nopFA => [0xFA]
  | .iscAby b1 b2 => [0xFB, b1, b2]
  | .nopAbxFC b1 b2 => [0xFC, b1, b2]
  | .sbcAbx b1 b2 => [0xFD, b1, b2]
  | .incAbx b1 b2 => [0xFE, b1, b2]
  | .iscAbx b1 b2 => [0xFF, b1, b2]
  | .tLslImm rd rs off => encRRR 0x0000 rd rs off.toNat
  | .tLsrImm rd rs off => encRRR 0x0800 rd rs off.toNat
  | .tAsrImm rd rs off => encRRR 0x1000 rd rs off.toNat
  | .tAddReg rd rs rn => encRRR 0x1800 rd rs rn.toNat
  | .tSubReg rd rs rn => encRRR 0x1A00 rd rs rn.toNat
  | .tAddImm3 rd rs imm => encRRR 0x1C00 rd rs imm.toNat
  | .tSubImm3 rd rs imm => encRRR 0x1E00 rd rs imm.toNat
  | .tMovImm rd imm => encR8 0x2000 rd imm
  | .tCmpImm rd imm => encR8 0x2800 rd imm
  | .tAddImm8 rd imm => encR8 0x3000 rd imm
  | .tSubImm8 rd imm => encR8 0x3800 rd imm
  | .tAnd rd rs => encRRR 0x4000 rd rs 0
  | .tEor rd rs => encRRR 0x4040 rd rs 0
  | .tLslReg rd rs => encRRR 0x4080 rd rs 0
  | .tLsrReg rd rs => encRRR 0x40C0 rd rs 0
  | .tAsrReg rd rs => encRRR 0x4100 rd rs 0
  | .tAdc rd rs => encRRR 0x4140 rd rs 0
  | .tSbc rd rs => encRRR 0x4180 rd rs 0
  | .tRorReg rd rs => encRRR 0x41C0 rd rs 0
  | .tTst rd rs => encRRR 0x4200 rd rs 0
  | .tNeg rd rs => encRRR 0x4240 rd rs 0
  | .tCmpReg rd rs => encRRR 0x4280 rd rs 0
  | .tCmn rd rs => encRRR 0x42C0 rd rs 0
  | .tOrr rd rs => encRRR 0x4300 rd rs 0
  | .tMul rd rs => encRRR 0x4340 rd rs 0
  | .tBic rd rs => encRRR 0x4380 rd rs 0
  | .tMvn rd rs => encRRR 0x43C0 rd rs 0
  | .tAddHi rd rs => encHigh 0x4400 rd rs
  | .tCmpHi rd rs => encHigh 0x4500 rd rs
  | .tMovHi rd rs => encHigh 0x4600 rd rs
  | .tBx rs => encHigh 0x4700 0 rs
  | .tLdrPc rd imm => encR8 0x4800 rd imm
  | .tStrReg rd rb ro => encRRR 0x5000 rd rb ro.toNat
  | .tStrbReg rd rb ro => encRRR 0x5400 rd rb ro.toNat
  | .tLdrReg rd rb ro => encRRR 0x5800 rd rb ro.toNat
  | .tLdrbReg rd rb ro => encRRR 0x5C00 rd rb ro.toNat
  | .tStrhReg rd rb ro => encRRR 0x5200 rd rb ro.toNat
  | .tLdrhReg rd rb ro => encRRR 0x5A00 rd rb ro.toNat
  | .tLdsbReg rd rb ro => encRRR 0x5600 rd rb ro.toNat
  | .tLdshReg rd rb ro => encRRR 0x5E00 rd rb ro.toNat
  | .tStrImm rd rb off => encRRR 0x6000 rd rb off.toNat
  | .tLdrImm rd rb off => encRRR 0x6800 rd rb off.toNat
  | .tStrbImm rd rb off => encRRR 0x7000 rd rb off.toNat
  | .tLdrbImm rd rb off => encRRR 0x7800 rd rb off.toNat
  | .tStrhImm rd rb off => encRRR 0x8000 rd rb off.toNat
  | .tLdrhImm rd rb off => encRRR 0x8800 rd rb off.toNat
  | .tStrSp rd imm => encR8 0x9000 rd imm
  | .tLdrSp rd imm => encR8 0x9800 rd imm
  | .tAddPc rd imm => encR8 0xA000 rd imm
  | .tAddSp rd imm => encR8 0xA800 rd imm
  | .tAddSpImm imm => encLow 0xB000 imm.toNat
  | .tSubSpImm imm => encLow 0xB080 imm.toNat
  | .tPush r list => encLow (0xB400 + r.toNat * 256) list.toNat
  | .tPop r list => encLow (0xBC00 + r.toNat * 256) list.toNat
  | .tStmia rb list => encR8 0xC000 rb list
  | .tLdmia rb list => encR8 0xC800 rb list
  | .tBeq off => encLow 0xD000 off.toNat
  | .tBne off => encLow 0xD100 off.toNat
  | .tBcs off => encLow 0xD200 off.toNat
  | .tBcc off => encLow 0xD300 off.toNat
  | .tBmi off => encLow 0xD400 off.toNat
  | .tBpl off => encLow 0xD500 off.toNat
  | .tBvs off => encLow 0xD600 off.toNat
  | .tBvc off => encLow 0xD700 off.toNat
  | .tBhi off => encLow 0xD800 off.toNat
  | .tBls off => encLow 0xD900 off.toNat
  | .tBge off => encLow 0xDA00 off.toNat
  | .tBlt off => encLow 0xDB00 off.toNat
  | .tBgt off => encLow 0xDC00 off.toNat
  | .tBle off => encLow 0xDD00 off.toNat
  | .tSwi imm => encLow 0xDF00 imm.toNat
  | .tB off => encLow 0xE000 off.toNat
  | .tBlHi off => encLow 0xF000 off.toNat
  | .tBlLo off => encLow 0xF800 off.toNat

/-- The decoding of the bytes of one 6507 instruction: missing operand bytes read as 0. -/
def decodeBytes6507 (bs : List Byte) : Instr :=
  decode6507 (bs.getD 0 0) (bs.getD 1 0) (bs.getD 2 0)

/-- The halfword of the first two bytes, low byte first (R108). -/
def halfOfBytes (bs : List Byte) : Half := (bs.getD 1 0) ++ (bs.getD 0 0)

/-- The decoding of the two bytes of one Thumb instruction. -/
noncomputable def decodeBytesThumb (bs : List Byte) : Except DecodeError Instr := decodeThumb (halfOfBytes bs)

/-- How many bytes an opcode byte stands for, itself included (R151). -/
def opLength (b0 : Byte) : Nat := (encode (decode6507 b0 0 0)).length

/-- A row of opcode_table.json as its numbering gives it: 8 or 24 bits for the 6507 (the second byte is bits 15..8),
16 bits for Thumb. -/
noncomputable def decodeTableWord (nbits w : Nat) : Option Instr :=
  if nbits = 16 then
    match decodeBytesThumb (halfBytes w) with
    | .ok i => some i
    | .error _ => none
  else if nbits = 8 ∨ nbits = 24 then
    some (decode6507 (BitVec.ofNat 8 w) (BitVec.ofNat 8 (w / 256)) (BitVec.ofNat 8 (w / 65536)))
  else none

end Sys2Proof
end

