-- ==== Sys2Proof/Config.lean ====
section
/-! DEFINITION. What an implementation fixes (the parameters of R5) as plain data, and the values the spec leaves open as
constants without a body. -/

namespace Sys2Proof.Machine

/-- `UNDOC_POLICY` (R5, R310): execute the stable undocumented opcodes, or refuse all 105. -/
inductive UndocPolicy where
  | execute
  | refuseAll
  deriving DecidableEq, Repr

/-- `TIA_UNDRIVEN` (R5, R89): what fills data bits 5..0 of a TIA read. -/
inductive Undriven where
  | lastData
  | zero
  deriving DecidableEq, Repr

/-- `ARM_ARCH` (R5, R484). -/
inductive ArmArch where
  | arm7tdmi
  | armv7m
  deriving DecidableEq, Repr

/-- `TIA_DELAYS` (R441): colour clocks between a register write and its effect. -/
structure TiaDelays where
  resetVisible : Nat := 4
  resetHblank : Nat := 2
  resetHblankHmove : Nat := 3
  startDraw : Nat := 4
  nusiz : Nat := 0
  nusizActive : Nat := 0
  grp : Nat := 0
  enable : Nat := 0
  pf : Nat := 0
  hmove : Nat := 0
  hm : Nat := 0
  vblank : Nat := 0
  rsync : Nat := 0
  other : Nat := 0
  deriving DecidableEq, Repr

/-- The tag of a StrongARM helper function (R620, R631); `other` names a function outside the default table. -/
inductive FnTag where
  | vcsWrite3 | vcsJmp3 | vcsLda2 | vcsLdx2 | vcsLdy2 | vcsSta3 | vcsStx3 | vcsSty3 | vcsNop2
  | other (n : Nat)
  deriving DecidableEq, Repr

/-- Where a step of a StrongARM function takes a value from (R620, R625, R629, R631). A byte is its low 8 bits, a bus
address its low 13. -/
inductive ShimSource where
  | const (w : Word)
  /-- A captured argument register. -/
  | arg (i : Fin 4)
  /-- Its low byte, `R[i] & 0xFF` (R631). -/
  | argByte (i : Fin 4)
  /-- The store opcode the stuffing tables choose for that byte (R629). -/
  | storeOpcode (i : Fin 4)
  /-- `busStuffData` (R628). -/
  | stuffData
  /-- The byte the 6507 drives in the current cycle, a write (R625; on a read there is none: 0, log 38). -/
  | cycleData
  deriving DecidableEq, Repr

/-- What one step of a StrongARM function waits for (R626, R628, R631). -/
inductive ShimAct where
  /-- `injectRomByte(v)` (R626). -/
  | inject (v : ShimSource)
  /-- `stuffWrite(a, d)` (R628). -/
  | stuffWrite (a d : ShimSource)
  /-- `yieldDataBus(a)`: the same wait without replacement (R628). -/
  | yieldDataBus (a : ShimSource)
  /-- A read at `expectedAddr` that does not advance it (R631 `vcsNop2`, R635). -/
  | awaitRead
  /-- Nothing: the step is over in the next bus cycle, whichever it is. -/
  | anyCycle
  deriving DecidableEq, Repr

/-- How the call that ends a step's wait goes on (R620): to the next state, into `pushFunction(g, args)` (R623), or to
`endFunction()` with the function's result for `R[0]`, if it has one (R622). -/
inductive ShimThen where
  | advance
  | push (g : FnTag) (args : Vector ShimSource 4)
  | finish (result : Option ShimSource)
  deriving DecidableEq, Repr

/-- One step of a StrongARM function: what it waits for and what it does when the wait is over (R631). -/
structure ShimStep where
  act : ShimAct
  /-- `busStuff <- 1; busStuffData <- …`. -/
  stuff : Option ShimSource := none
  /-- `expectedAddr <- …`. -/
  expect : Option BusAddr := none
  andThen : ShimThen := .advance
  deriving DecidableEq, Repr

/-- The default `StrongArmFunctions` table, R631. -/
def defaultFunctions : List (FnTag × List ShimStep) :=
  [(.vcsWrite3, [{ act := .inject (.const 0x85) }, { act := .inject (.argByte 0), stuff := some (.argByte 1) },
      { act := .stuffWrite (.argByte 0) .stuffData, andThen := .finish none }]),
   (.vcsJmp3, [{ act := .inject (.const 0x4C) }, { act := .inject (.const 0x00) },
      { act := .inject (.const 0x10), expect := some 0x1000, andThen := .finish none }]),
   (.vcsLda2, [{ act := .inject (.const 0xA9) }, { act := .inject (.argByte 0), andThen := .finish none }]),
   (.vcsLdx2, [{ act := .inject (.const 0xA2) }, { act := .inject (.argByte 0), andThen := .finish none }]),
   (.vcsLdy2, [{ act := .inject (.const 0xA0) }, { act := .inject (.argByte 0), andThen := .finish none }]),
   (.vcsSta3, [{ act := .inject (.const 0x85) }, { act := .inject (.argByte 0) },
      { act := .yieldDataBus (.argByte 0), andThen := .finish none }]),
   (.vcsStx3, [{ act := .inject (.const 0x86) }, { act := .inject (.argByte 0) },
      { act := .yieldDataBus (.argByte 0), andThen := .finish none }]),
   (.vcsSty3, [{ act := .inject (.const 0x84) }, { act := .inject (.argByte 0) },
      { act := .yieldDataBus (.argByte 0), andThen := .finish none }]),
   (.vcsNop2, [{ act := .inject (.const 0xEA) }, { act := .awaitRead, andThen := .finish none }])]

/-- The register addresses of an ARM timer (R491, R492); `none` where the device is absent. -/
structure TimerMap where
  ctrl : Word
  count : Word
  deriving DecidableEq, Repr

/-- The parameters of R5 that a coprocessor cartridge brings with it: `ARM_MMAP` (R491), the function table (R631) and the
`ARM_RESET_*` values its mapper supplies (R474, R711). R491 gives the default of `programWritable` and no other; the regions and
addresses here are the model's, among them `nullLimit` 0, no `timer2`, and the RNG at the address R491 mentions for STM32 parts
beside the LPC2000's for the others (log 6). -/
structure CartParams where
  programOrigin : Word := 0
  programSize : Nat := 0x8000
  programWritable : Bool := false
  variableOrigin : Word := 0x40000000
  variableSize : Nat := 0x1000
  nullLimit : Word := 0
  timerMap : Option TimerMap := some ⟨0xE0008004, 0xE0008008⟩
  timer2Map : Option TimerMap := none
  rngData : Option Word := some 0x50060808
  mamcr : Option Word := some 0xE01FC000
  mamtim : Option Word := some 0xE01FC004
  strongArmEntries : List (Word × FnTag) := []
  strongArmFunctions : List (FnTag × List ShimStep) := defaultFunctions
  armResetSp : Word := 0x40001000
  armResetLr : Word := 0x00FFFFFF
  armResetPc : Word := 0
  deriving DecidableEq, Repr

/-- The parameters of R5 that stay open, with the default values of R5, R441 and log 6. No step changes them; a cartridge
swap replaces those of the cartridge (R701). -/
structure Params extends CartParams where
  undocPolicy : UndocPolicy := .execute
  /-- How many of the three ticks pass before a TIA write acts (R721). -/
  tiaWritePhase : Fin 3 := 0
  delays : TiaDelays := {}
  /-- The late-RESPx flag of `TIA_REVISION_FLAGS` (R436). -/
  lateRespxHeat : Bool := false
  /-- The lost-MOTCK flag of `TIA_REVISION_FLAGS` (R435). -/
  lostMotck : Bool := false
  tiaUndriven : Undriven := .lastData
  armArch : ArmArch := .arm7tdmi
  /-- `ARM_CLK_MHZ` as a fraction (R497). -/
  armClkNum : Nat := 70
  armClkDen : Nat := 1
  /-- `FLASH_ACCESS_NS` as a fraction (R497). -/
  flashNum : Nat := 0
  flashDen : Nat := 1
  /-- `ARM_PER_CPU` as a fraction (R507). -/
  armPerCpuNum : Nat := 70
  armPerCpuDen : Nat := 1
  armCycleLimit : Nat := 1000000
  armInstructionLimit : Nat := 1000000
  abortOnMemoryFault : Bool := false
  /-- `Developer.breakpoint`, as the addresses at which it answers true (R478); absent by default (R679). -/
  breakpoints : List Word := []
  deriving DecidableEq, Repr

/-- One access of the 6507 to a RIOT register, or none (a step without one): the history the device sees (R91). -/
inductive RiotAccess where
  | read (reg : BitVec 5)
  | write (reg : BitVec 5) (v : Byte)
  deriving DecidableEq, Repr

/-- What a bank-switching or coprocessor mapper may look at when it answers an access (R33, R85, R93). -/
structure MapperView where
  bank : Nat
  rom : List Host.Cell
  romSize : Nat
  cartRam : List Host.Cell
  /-- The shared variable memory of the coprocessor (R56). -/
  shared : List Host.Cell
  /-- The mapper presents itself as busy (R507). -/
  busy : Bool
  deriving DecidableEq, Repr

/-- What an access may do inside such a mapper: bank selection, cartridge RAM, shared memory, the coprocessor trigger,
a call of `Interrupt()`, the stuffing masks, `variableMemTop` (R57, R87, R90, R102, R507, R629). -/
structure MapperEffect where
  bank : Nat
  ramWrites : List (Nat × Byte)
  sharedWrites : List (Nat × Byte)
  trigger : Bool
  interrupt : Bool
  masks : Option (Byte × Byte × Byte)
  memTop : Option Word
  deriving DecidableEq, Repr, Inhabited

namespace Config

/-- `RiotIO.read` (R91): the device's answer after `steps` steps and these earlier accesses; `none` where the register
number has nothing behind it (R88). -/
opaque riotRead : (steps : Nat) → List (Nat × RiotAccess) → BitVec 5 → Option Byte

/-- Whether a RIOT register write finds a register (R88, R91). -/
opaque riotWriteMapped : BitVec 5 → Bool

/-- Bit 7 of `INPT0..INPT5` (R45, R438, R451): an external input stream, seen through the latch and dump enables. -/
opaque inpt : (steps : Nat) → (latch dump : Bool) → Fin 6 → Bool

/-- `Mapper.read` of a mapper other than `Flat` (R93); `none` where nothing stands at the offset (R88). -/
opaque mapperRead : MapperView → BitVec 12 → Option Byte × MapperEffect

/-- `Mapper.write` of a mapper other than `Flat` (R93); `none` where nothing stands at the offset (R88). -/
opaque mapperWrite : MapperView → BitVec 12 → Byte → Option MapperEffect

/-- `Mapper.listen` of a mapper other than `Flat` (R87). -/
opaque mapperListen : MapperView → BusAddr → Byte → MapperEffect

/-- What a mapper other than `Flat` does at a machine reset (R700: bank selection, variable memory and `variableMemTop` are
the mapper's). -/
opaque mapperReset : MapperView → MapperEffect

/-- The values of the RNG instance, in the order they are read (R493). -/
opaque rng : Nat → Word

/-- The C flag after a MUL (R563), a free value. -/
opaque mulCarry : Nat → Bool

/-- The table `stuffOpcode` of `StuffTables(maskA, maskX, maskY)` (R629). -/
opaque stuffOpcode : Byte → Byte → Byte → Byte → Byte

/-- The table `stuffMode` of `StuffTables(maskA, maskX, maskY)` (R629). -/
opaque stuffMode : Byte → Byte → Byte → Byte → Byte

/-- `LATE_RESPX_HEAT` (R436): one more colour clock of delay, or not. -/
opaque heatExtra : (scanline heat : Nat) → Bool

/-- How the heat state advances at a position reset (R48, R436). -/
opaque heatNext : (scanline heat : Nat) → Nat

/-- The counter of a timer after a write to its counter address, from the old counter and the data (R492 is silent). -/
opaque timerCounterWrite : Word → Word → Word

/-- Whether the MAM hides a flash cycle in the reserved mode 3 (R505 is silent), by sequential and fetch. -/
opaque mamReservedHides : (sequential fetch : Bool) → Bool

end Config

end Sys2Proof.Machine
end

