-- ==== Sys2Proof/Machine/State.lean ====
section
/-! DEFINITION. The state of the block as plain data (10_state.md), the ways a step can stop (R651), and reset (R700). -/

namespace Sys2Proof.Machine

/-- A memory as address and byte pairs (see Machine/Mem.lean for its canonical form). -/
abbrev Memory := List Host.Cell

/-- The ways the machine halts (R651, R666, R668, R669): each ends the run. -/
inductive Fault where
  /-- Raised by the ARM run loop when a cycle or instruction limit is exceeded (R479). Safe: the spec halts there. -/
  | armLimit
  /-- Raised by the ARM on SWI and on an undefined halfword (R533, R596). Safe: the spec halts there. -/
  | unhandledOpcodeClass
  /-- Raised by BX to an address with bit 0 clear (R487, R569). Safe: the spec halts there. -/
  | armStateNotSupported
  /-- Raised by the shim when a function is pushed while one is pushed (R623). Safe: the spec halts there. -/
  | doublePush
  /-- Raised by `SetNUSIZ` for a value above 7 (R431). Safe: the spec halts there. -/
  | illegalNusiz
  /-- Raised by the TIA scheduler for a 65th live event (R410). Safe: the spec halts there. -/
  | schedulerFull
  deriving DecidableEq, Repr

/-- The forms and configurations the spec gives no meaning (R667). Each is safe: nothing is claimed of them. -/
inductive Refusal where
  /-- Raised by an arm of the dispatch whose instruction has no meaning yet. Safe. -/
  | notModelled (mnemonic : String)
  /-- Raised by the 7 unstable undocumented opcodes (R340). Safe. -/
  | unstableOpcode
  /-- Raised by ARR in decimal mode (R322). Safe. -/
  | arrDecimal
  /-- Raised by any undocumented opcode under `UNDOC_POLICY = refuse_all` (R310). Safe. -/
  | undocumentedPolicy
  /-- Raised by PUSH, POP, STMIA and LDMIA with an empty register list (R591 to R594). Safe. -/
  | emptyRegisterList
  /-- Raised by STMIA whose base is in the list and not lowest (R593). Safe. -/
  | stmiaBaseNotLowest
  /-- Raised by a call of a StrongARM function that the table does not hold (R631). Safe. -/
  | unknownStrongArmFunction
  /-- Raised by the step for a flat cartridge of another size than 2048 or 4096 bytes (R92). Safe. -/
  | unsupportedMapper
  /-- Raised by the step when the lost-MOTCK flag is set (R435). Safe. -/
  | lostMotck
  /-- Raised by the step when `ARM_ARCH = ARMv7_M` (R484). Safe. -/
  | armV7M
  deriving DecidableEq, Repr

/-- How an operation stops short of a next state. -/
inductive Stop where
  | fault (f : Fault)
  | refused (r : Refusal)
  deriving DecidableEq, Repr

/-- The 6507 (R20 to R29). -/
structure Cpu where
  a : Byte
  x : Byte
  y : Byte
  sp : Byte
  pc : Addr
  c : Bool
  z : Bool
  i : Bool
  d : Bool
  v : Bool
  n : Bool
  /-- A JAM opcode has been executed (R29). -/
  jammed : Bool
  /-- `T` stands at the start of the reset sequence (R28, R700). -/
  resetting : Bool
  /-- The opcode in progress (R28). -/
  ir : Byte
  /-- The cycle within the instruction (R28): how many of its bus accesses have been made. -/
  t : Nat
  adl : Byte
  adh : Byte
  bal : Byte
  dl : Byte
  fix : Bool
  deriving DecidableEq, Repr

/-- The bus side of the 6507 (R27) and the data-bus latch (R31). -/
structure Bus where
  abus : Addr
  dbus : Byte
  isRead : Bool
  lastData : Byte
  deriving DecidableEq, Repr

/-- The RIOT: its RAM (R32), and the history its registers depend on (R91), which is the model's own. -/
structure Riot where
  ram : Memory
  steps : Nat
  accesses : List (Nat × RiotAccess)
  deriving DecidableEq, Repr

/-- The cartridge variants (R33, R92, R93). -/
inductive MapperVariant where
  | flat
  | banked
  | coproc
  deriving DecidableEq, Repr

/-- The cartridge (R33) with the driver-side coprocessor accounts (R60, R507). -/
structure Mapper where
  variant : MapperVariant
  rom : Memory
  romSize : Nat
  bank : Nat
  cartRam : Memory
  /-- The cartridge's image of the ARM's program memory, which every reset restores (R56, R79, R711). -/
  armImage : Memory
  /-- The coprocessor has been triggered and `Run()` not yet called (R507). -/
  triggered : Bool
  /-- The fraction `armCarry` (R60), in units of one over `ARM_PER_CPU`'s denominator. -/
  armCarry : Nat
  /-- The debt of R507, in cycle units (see `Params.unit`). -/
  debt : Nat
  deriving DecidableEq, Repr

/-- The four states of a phase clock (R35, R402). -/
inductive PhaseClock where
  | risingPhi1 | fallingPhi1 | risingPhi2 | fallingPhi2
  deriving DecidableEq, Repr

/-- A polycounter paired with its phase clock (R34, R403). -/
structure Counter where
  count : Nat
  pclk : PhaseClock
  deriving DecidableEq, Repr

/-- The sprites with a position counter (R39). -/
inductive SpriteId where
  | p0 | p1 | m0 | m1 | bl
  deriving DecidableEq, Repr

/-- The TIA write registers (R450). -/
inductive TiaReg where
  | vsync | vblank | wsync | rsync
  | nusiz0 | nusiz1 | colup0 | colup1 | colupf | colubk | ctrlpf | refp0 | refp1
  | pf0 | pf1 | pf2 | resp0 | resp1 | resm0 | resm1 | resbl
  | audc0 | audc1 | audf0 | audf1 | audv0 | audv1
  | grp0 | grp1 | enam0 | enam1 | enabl | hmp0 | hmp1 | hmm0 | hmm1 | hmbl
  | vdelp0 | vdelp1 | vdelbl | resmp0 | resmp1 | hmove | hmclr | cxclr
  deriving DecidableEq, Repr

/-- What a scheduled event does when it fires (R36): a register takes effect, or a sprite's position is reset (R428). -/
inductive Payload where
  | register (r : TiaReg) (v : Byte)
  | resetPos (s : SpriteId)
  deriving DecidableEq, Repr

/-- A scheduled event (R36, R406). -/
structure Event where
  remaining : Nat
  payload : Payload
  deriving DecidableEq, Repr

/-- The state machine of a sprite (R39, R420). -/
inductive Phase where
  | idle
  | latching (n : Nat)
  | active
  deriving DecidableEq, Repr

/-- The scan counter (R39): graphics bit, copy, and colour clocks spent on the bit. -/
structure Scan where
  bit : Nat
  copy : Nat
  sub : Nat
  deriving DecidableEq, Repr

/-- What player, missile and ball have in common (R39), with the group of the sprite's events (R37). -/
structure Sprite where
  ctr : Counter
  hm : BitVec 4
  moreHmove : Bool
  resetPixel : Nat
  hmovedPixel : Nat
  phase : Phase
  scan : Scan
  events : List Event
  deriving DecidableEq, Repr

/-- A player (R40). -/
structure Player where
  sprite : Sprite
  gfxNew : Byte
  gfxOld : Byte
  vdel : Bool
  reflect : Bool
  nusiz : BitVec 3
  colour : BitVec 7
  deriving DecidableEq, Repr

/-- A missile (R41). -/
structure Missile where
  sprite : Sprite
  enable : Bool
  copies : BitVec 3
  size : BitVec 2
  resetToPlayer : Bool
  deriving DecidableEq, Repr

/-- The ball (R42). -/
structure Ball where
  sprite : Sprite
  enableNew : Bool
  enableOld : Bool
  vdel : Bool
  size : BitVec 2
  deriving DecidableEq, Repr

/-- The playfield and the background colour (R43), with the playfield's events. -/
structure Playfield where
  pf0 : BitVec 4
  pf1 : Byte
  pf2 : Byte
  reflect : Bool
  score : Bool
  priority : Bool
  colupf : BitVec 7
  colubk : BitVec 7
  events : List Event
  deriving DecidableEq, Repr

/-- The 15 collision latches (R44, R452). -/
structure Collisions where
  m0p1 : Bool
  m0p0 : Bool
  m1p0 : Bool
  m1p1 : Bool
  p0pf : Bool
  p0bl : Bool
  p1pf : Bool
  p1bl : Bool
  m0pf : Bool
  m0bl : Bool
  m1pf : Bool
  m1bl : Bool
  blpf : Bool
  p0p1 : Bool
  m0m1 : Bool
  deriving DecidableEq, Repr

/-- The audio register latch (R46). -/
structure Audio where
  audc0 : BitVec 4
  audc1 : BitVec 4
  audf0 : BitVec 5
  audf1 : BitVec 5
  audv0 : BitVec 4
  audv1 : BitVec 4
  deriving DecidableEq, Repr

/-- The signal of one colour clock (R47, R444): `none` is blank. -/
structure Signal where
  colour : Option (BitVec 7)
  hblank : Bool
  vblank : Bool
  vsync : Bool
  hsync : Bool
  audio : Audio
  collisions : Collisions
  deriving DecidableEq, Repr

/-- The TIA (R38 to R48). -/
structure Tia where
  /-- The horizontal counter `hsync` with `tia.pclk`. -/
  ctr : Counter
  hblank : Bool
  hsyncSig : Bool
  vsync : Bool
  vblank : Bool
  hmoveLatch : Bool
  wsync : Bool
  /-- The ripple counter, `none` for off. -/
  hmoveCt : Option Nat
  /-- VBLANK bit 6 (R438). -/
  inptLatch : Bool
  /-- VBLANK bit 7 (R438). -/
  inptDump : Bool
  p0 : Player
  p1 : Player
  m0 : Missile
  m1 : Missile
  bl : Ball
  pf : Playfield
  cx : Collisions
  audio : Audio
  /-- The events of the group `TIA` (R407). -/
  events : List Event
  scanline : Nat
  heat : Nat
  signal : Signal
  deriving DecidableEq, Repr

/-- The yield reasons (R53). -/
inductive Yield where
  | running | programEnded | breakpoint | memoryAccessError | stackError | syncWithVcs
  deriving DecidableEq, Repr

/-- A timer of the ARM side (R55, R492); `frac` is the part of a cycle not yet counted, in cycle units. -/
structure Timer where
  ctrl : Word
  count : Word
  frac : Nat
  deriving DecidableEq, Repr

/-- Counts of N, S and I cycles (R54). -/
structure CycleCounts where
  n : Nat
  s : Nat
  i : Nat
  deriving DecidableEq, Repr

/-- The ARM core (R50 to R58). -/
structure Arm where
  r : Vector Word 16
  n : Bool
  z : Bool
  c : Bool
  v : Bool
  executingPC : Word
  instructionPC : Word
  decode32 : Bool
  firstHalf : Half
  yield : Yield
  /-- The local `skipBreak` of `Run()` (R471). -/
  skipBreak : Bool
  /-- The local `wrotePC` of `stepInstruction()` (R476). -/
  wrotePC : Bool
  /-- The cycles of the instruction in progress (R54). -/
  instr : CycleCounts
  /-- Its stretched cost so far, in cycle units (R497). -/
  instrUnits : Nat
  /-- The accumulated counts and the accumulated stretched total (R54). -/
  total : CycleCounts
  cycles : Nat
  /-- `runCycles` in cycle units and `runInstructions` (R471). -/
  runUnits : Nat
  runInstrs : Nat
  lastWasI : Bool
  timer : Timer
  timer2 : Timer
  /-- How many values of the RNG instance have been read, and the last one (R55, R493). -/
  rngCount : Nat
  rngLast : Word
  mamcr : BitVec 2
  mamtim : BitVec 3
  progMem : Memory
  varMem : Memory
  variableMemTop : Word
  stackCheck : Bool
  interruptReq : Bool
  /-- The MODEL's own: the index of the next free value (log 13). -/
  freeCount : Nat
  deriving DecidableEq, Repr

/-- A StrongARM function state (R65): tag or nil, state, captured arguments. -/
structure FnState where
  fn : Option FnTag
  state : Nat
  regs : Vector Word 4
  deriving DecidableEq, Repr

/-- The shim (R65, R66). -/
structure Shim where
  running : FnState
  pushed : FnState
  busStuff : Bool
  busStuffData : Byte
  maskA : Byte
  maskX : Byte
  maskY : Byte
  expectedAddr : BusAddr
  deriving DecidableEq, Repr

/-- A logged event (R651, R660 to R662). -/
inductive LogEntry where
  | busError (addr : BusAddr) (isRead : Bool)
  | armBusError (addr : Word) (isRead : Bool) (pc : Word) (null : Bool)
  | armStackCollision (sp : Word) (pc : Word)
  deriving DecidableEq, Repr

/-- The whole block. `log` is the history of logged events, newest first (R79; log 23). -/
structure State where
  params : Params
  cpu : Cpu
  bus : Bus
  riot : Riot
  mapper : Mapper
  tia : Tia
  arm : Arm
  shim : Shim
  log : List LogEntry
  deriving DecidableEq, Repr

/-- The 6507 at power-on, at the start of the reset sequence (R700; unspecified values 0, log 2 and log 3). -/
def Cpu.reset : Cpu :=
  { a := 0, x := 0, y := 0, sp := 0, pc := 0, c := false, z := false, i := true, d := false, v := false, n := false,
    jammed := false, resetting := true, ir := 0, t := 0, adl := 0, adh := 0, bal := 0, dl := 0, fix := false }

/-- A counter pair after its reset (R400, R402). -/
def Counter.zero : Counter := ⟨0, .risingPhi1⟩

/-- A sprite after reset (R39, R700). -/
def Sprite.reset : Sprite :=
  { ctr := Counter.zero, hm := 0, moreHmove := false, resetPixel := 0, hmovedPixel := 0, phase := .idle,
    scan := ⟨0, 0, 0⟩, events := [] }

/-- A player after reset (R40). -/
def Player.reset : Player :=
  { sprite := Sprite.reset, gfxNew := 0, gfxOld := 0, vdel := false, reflect := false, nusiz := 0, colour := 0 }

/-- A missile after reset (R41). -/
def Missile.reset : Missile :=
  { sprite := Sprite.reset, enable := false, copies := 0, size := 0, resetToPlayer := false }

/-- The ball after reset (R42). -/
def Ball.reset : Ball :=
  { sprite := Sprite.reset, enableNew := false, enableOld := false, vdel := false, size := 0 }

/-- The playfield after reset (R43). -/
def Playfield.reset : Playfield :=
  { pf0 := 0, pf1 := 0, pf2 := 0, reflect := false, score := false, priority := false, colupf := 0, colubk := 0,
    events := [] }

/-- The collision latches cleared (R44, R450). -/
def Collisions.clear : Collisions :=
  { m0p1 := false, m0p0 := false, m1p0 := false, m1p1 := false, p0pf := false, p0bl := false, p1pf := false,
    p1bl := false, m0pf := false, m0bl := false, m1pf := false, m1bl := false, blpf := false, p0p1 := false,
    m0m1 := false }

/-- The audio registers after reset (R46). -/
def Audio.reset : Audio := { audc0 := 0, audc1 := 0, audf0 := 0, audf1 := 0, audv0 := 0, audv1 := 0 }

/-- The TIA after reset: everything 0 but `hblank` (R38, R700, R703). -/
def Tia.reset : Tia :=
  { ctr := Counter.zero, hblank := true, hsyncSig := false, vsync := false, vblank := false, hmoveLatch := false,
    wsync := false, hmoveCt := none, inptLatch := false, inptDump := false, p0 := Player.reset, p1 := Player.reset,
    m0 := Missile.reset, m1 := Missile.reset, bl := Ball.reset, pf := Playfield.reset, cx := Collisions.clear,
    audio := Audio.reset, events := [], scanline := 0, heat := 0,
    signal := { colour := none, hblank := true, vblank := false, vsync := false, hsync := false,
                audio := Audio.reset, collisions := Collisions.clear } }

/-- The registers of `resetRegisters()`: R[13], R[14], R[15] from the parameters, the rest 0 (R474). -/
def Arm.resetRegs (p : Params) : Vector Word 16 :=
  #v[0, 0, 0, 0, 0, 0, 0, 0, 0, 0, 0, 0, 0, p.armResetSp, p.armResetLr, p.armResetPc + 2]

/-- The ARM core after a machine reset (R700, R704; log 5). -/
def Arm.reset (p : Params) : Arm :=
  { r := Arm.resetRegs p, n := false, z := false, c := false, v := false, executingPC := p.armResetPc,
    instructionPC := p.armResetPc, decode32 := false, firstHalf := 0, yield := .programEnded, skipBreak := false,
    wrotePC := false, instr := ⟨0, 0, 0⟩, instrUnits := 0, total := ⟨0, 0, 0⟩, cycles := 0, runUnits := 0,
    runInstrs := 0, lastWasI := false, timer := ⟨0, 0, 0⟩, timer2 := ⟨0, 0, 0⟩, rngCount := 0, rngLast := 0,
    mamcr := 0, mamtim := 0, progMem := [], varMem := [], variableMemTop := 0, stackCheck := true,
    interruptReq := false, freeCount := 0 }

/-- A function state with no function (R65). -/
def FnState.nil : FnState := ⟨none, 0, #v[0, 0, 0, 0]⟩

/-- The shim after reset (R640). -/
def Shim.reset : Shim :=
  { running := FnState.nil, pushed := FnState.nil, busStuff := false, busStuffData := 0, maskA := 0, maskX := 0,
    maskY := 0, expectedAddr := 0x1000 }

/-- The machine right after reset is asserted at power-on: the 6507 stands before the seven cycles of R702, the TIA and
the rest hold the values of R700. No program is loaded (log 1). -/
def State.reset : State :=
  { params := {},
    cpu := Cpu.reset,
    bus := { abus := 0, dbus := 0, isRead := true, lastData := 0 },
    riot := { ram := [], steps := 0, accesses := [] },
    mapper := { variant := .flat, rom := [], romSize := 4096, bank := 0, cartRam := [], armImage := [],
                triggered := false, armCarry := 0, debt := 0 },
    tia := Tia.reset,
    arm := Arm.reset {},
    shim := Shim.reset,
    log := [] }

/-- What a meaning and a step answer. -/
abbrev Result := Host.Outcome State Fault Refusal

end Sys2Proof.Machine
end

