-- ==== Sys2Proof/Machine/Flags.lean ====
section
/-! DEFINITION. Every flag computation: the 6507's arithmetic, compares and shifts (41, 42, 44), the status byte (R26), and
the ARM's (R534, R535, R536 to R538, R552 to R557). -/

namespace Sys2Proof.Machine

/-! ### 6507 -/

/-- `setNZ(v)` (R8). -/
def Cpu.setNZ (v : Byte) (k : Cpu) : Cpu := { k with n := v.msb, z := v == 0 }

/-- What an addition or subtraction of the 6507 delivers. -/
structure AluOut where
  r : Byte
  n : Bool
  v : Bool
  z : Bool
  c : Bool
  deriving DecidableEq, Repr

/-- `adc_binary(M)` (R202). -/
def adcBinary (a m : Byte) (c : Bool) : AluOut :=
  let s := a.toNat + m.toNat + c.toNat
  let r := BitVec.ofNat 8 s
  { r := r, n := r.msb, v := ((a ^^^ r) &&& (m ^^^ r)).msb, z := r == 0, c := decide (0xFF < s) }

/-- The high digit of a byte, in place. -/
def highDigit (a : Byte) : Nat := a.toNat / 16 * 16

/-- `adc_decimal(M)` of the NMOS part (R203). -/
def adcDecimal (a m : Byte) (c : Bool) : AluOut :=
  let b := a.toNat + m.toNat + c.toNat
  let al₀ := a.toNat % 16 + m.toNat % 16 + c.toNat
  let al := if 0x0A ≤ al₀ then (al₀ + 6) % 16 + 0x10 else al₀
  let t := highDigit a + highDigit m + al
  let tb := BitVec.ofNat 8 t
  let t' := if 0xA0 ≤ t then t + 0x60 else t
  { r := BitVec.ofNat 8 t', n := tb.msb, v := ((a ^^^ tb) &&& (m ^^^ tb)).msb, z := b % 256 == 0,
    c := decide (0x100 ≤ t') }

/-- `sbc_binary(M)` (R205). -/
def sbcBinary (a m : Byte) (c : Bool) : AluOut :=
  let d : Int := (a.toNat : Int) - m.toNat - (1 - c.toNat)
  let r := BitVec.ofInt 8 d
  { r := r, n := r.msb, v := ((a ^^^ m) &&& (a ^^^ r)).msb, z := r == 0, c := decide (0 ≤ d) }

/-- `sbc_decimal(M)` of the NMOS part: the flags are the binary ones (R206). -/
def sbcDecimal (a m : Byte) (c : Bool) : AluOut :=
  let al₀ : Int := ((a.toNat % 16 : Nat) : Int) - (m.toNat % 16 : Nat) + c.toNat - 1
  let al : Int := if al₀ < 0 then (al₀ - 6) % 16 - 0x10 else al₀
  let t : Int := (highDigit a : Int) - highDigit m + al
  { sbcBinary a m c with r := BitVec.ofInt 8 (if t < 0 then t - 0x60 else t) }

/-- The sum and the flags N, V, Z, C stored. -/
def Cpu.takeAlu (o : AluOut) (k : Cpu) : Cpu := { k with a := o.r, n := o.n, v := o.v, z := o.z, c := o.c }

/-- ADC with operand `m` (R201). -/
def Cpu.adc (m : Byte) (k : Cpu) : Cpu :=
  k.takeAlu (if k.d then adcDecimal k.a m k.c else adcBinary k.a m k.c)

/-- SBC with operand `m` (R204). -/
def Cpu.sbc (m : Byte) (k : Cpu) : Cpu :=
  k.takeAlu (if k.d then sbcDecimal k.a m k.c else sbcBinary k.a m k.c)

/-- `compare(r, M)` (R210). -/
def Cpu.compare (r m : Byte) (k : Cpu) : Cpu := { k.setNZ (r - m) with c := decide (m.toNat ≤ r.toNat) }

/-- BIT (R214). -/
def Cpu.bitTest (m : Byte) (k : Cpu) : Cpu :=
  { k with n := m.getLsbD 7, v := m.getLsbD 6, z := (k.a &&& m) == 0 }

/-- The result of a one-operand operation with the carry it leaves: ASL (R231). -/
def aslOp (v : Byte) (_ : Bool) : Byte × Bool := (v <<< 1, v.getLsbD 7)

/-- LSR (R232). -/
def lsrOp (v : Byte) (_ : Bool) : Byte × Bool := (v >>> 1, v.getLsbD 0)

/-- ROL (R233). -/
def rolOp (v : Byte) (c : Bool) : Byte × Bool := ((v <<< 1) ||| BitVec.setWidth 8 (BitVec.ofBool c), v.getLsbD 7)

/-- ROR (R234). -/
def rorOp (v : Byte) (c : Bool) : Byte × Bool :=
  ((v >>> 1) ||| (BitVec.setWidth 8 (BitVec.ofBool c) <<< 7), v.getLsbD 0)

/-- INC leaves the carry alone (R235). -/
def incOp (v : Byte) (c : Bool) : Byte × Bool := (v + 1, c)

/-- DEC leaves the carry alone (R236). -/
def decOp (v : Byte) (c : Bool) : Byte × Bool := (v - 1, c)

/-- The status byte as PHP and BRK push it: `N V 1 B D I Z C` with `B = 1` (R26). -/
def Cpu.status (k : Cpu) : Byte :=
  BitVec.ofBool k.n ++ BitVec.ofBool k.v ++ 1#1 ++ 1#1 ++ BitVec.ofBool k.d ++ BitVec.ofBool k.i ++
    BitVec.ofBool k.z ++ BitVec.ofBool k.c

/-- The flags from a pulled status byte; bits 5 and 4 are ignored (R26). -/
def Cpu.withStatus (p : Byte) (k : Cpu) : Cpu :=
  { k with n := p.getLsbD 7, v := p.getLsbD 6, d := p.getLsbD 3, i := p.getLsbD 2, z := p.getLsbD 1,
           c := p.getLsbD 0 }

/-! ### ARM -/

/-- What `addFlags` delivers (R534). -/
structure ArmOut where
  r : Word
  n : Bool
  z : Bool
  c : Bool
  v : Bool
  deriving DecidableEq, Repr

/-- `addFlags(a, b, c)` (R534). -/
def addFlags (a b : Word) (c : Bool) : ArmOut :=
  let u := a.toNat + b.toNat + c.toNat
  let r := BitVec.ofNat 32 u
  { r := r, n := r.msb, z := r == 0, c := decide (2 ^ 32 ≤ u), v := a.msb == b.msb && r.msb != a.msb }

/-- LSL by an amount: `0` leaves C, 32 moves bit 0 to C, more clears it (R536, R552). -/
def lslFlags (v : Word) (s : Nat) (c : Bool) : Word × Bool :=
  if s = 0 then (v, c)
  else if s < 32 then (v <<< s, v.getLsbD (32 - s))
  else if s = 32 then (0, v.getLsbD 0)
  else (0, false)

/-- LSR by an amount (R537, R553). -/
def lsrFlags (v : Word) (s : Nat) (c : Bool) : Word × Bool :=
  if s = 0 then (v, c)
  else if s < 32 then (v >>> s, v.getLsbD (s - 1))
  else if s = 32 then (0, v.getLsbD 31)
  else (0, false)

/-- ASR by an amount (R538, R554). -/
def asrFlags (v : Word) (s : Nat) (c : Bool) : Word × Bool :=
  if s = 0 then (v, c)
  else if s < 32 then (v.sshiftRight s, v.getLsbD (s - 1))
  else (v.sshiftRight 31, v.getLsbD 31)

/-- ROR by an amount (R557). -/
def rorFlags (v : Word) (s : Nat) (c : Bool) : Word × Bool :=
  if s = 0 then (v, c)
  else if s % 32 = 0 then (v, v.getLsbD 31)
  else
    let r := (v >>> (s % 32)) ||| (v <<< (32 - s % 32))
    (r, r.msb)

/-- The conditions of format 16 (R535); 14 and 15 never reach it. -/
def condition (cond : Nat) (n z c v : Bool) : Bool :=
  match cond with
  | 0 => z
  | 1 => !z
  | 2 => c
  | 3 => !c
  | 4 => n
  | 5 => !n
  | 6 => v
  | 7 => !v
  | 8 => c && !z
  | 9 => !c || z
  | 10 => n == v
  | 11 => n != v
  | 12 => !z && n == v
  | _ => z || n != v

/-- The cycles of a multiplication, from the old `Rd` (R500): 1, 2, 3 or 4 as bits 31..8, 31..16, 31..24 are all zero or
all one, or none of these. -/
def mulCycles (v : Word) : Nat :=
  let s := v.toInt
  if -2 ^ 8 ≤ s ∧ s < 2 ^ 8 then 1 else if -2 ^ 16 ≤ s ∧ s < 2 ^ 16 then 2 else if -2 ^ 24 ≤ s ∧ s < 2 ^ 24 then 3
  else 4

end Sys2Proof.Machine
end

