-- ==== Sys2Proof/Machine/Mem.lean ====
section
/-! DEFINITION. Memories in one canonical form: addresses strictly rising, and no entry equal to what an unlisted address
reads as. -/

namespace Sys2Proof.Machine

/-- What an address reads as that the memory does not list: 0 (R32 and R56 give none: DESIGN CHOICE, log 4). -/
def unlisted : Byte := 0

/-- The byte at an address. -/
def Memory.read (m : Memory) (k : Nat) : Byte :=
  match m with
  | [] => unlisted
  | (a, b) :: rest => if a = k then b else Memory.read rest k

/-- The memory with one byte replaced, in canonical form. -/
def Memory.write (m : Memory) (k : Nat) (v : Byte) : Memory :=
  match m with
  | [] => if v = unlisted then [] else [(k, v)]
  | (a, b) :: rest =>
    if k < a then (if v = unlisted then (a, b) :: rest else (k, v) :: (a, b) :: rest)
    else if k = a then (if v = unlisted then rest else (k, v) :: rest)
    else (a, b) :: Memory.write rest k v

/-- The canonical form. -/
def Memory.wf (m : Memory) : Bool :=
  match m with
  | [] => true
  | (a, b) :: rest => b != unlisted && rest.all (fun c => a < c.1) && Memory.wf rest

/-- Several bytes written, the first first. -/
def Memory.writes (m : Memory) (ws : List (Nat × Byte)) : Memory :=
  ws.foldl (fun m w => m.write w.1 w.2) m

/-- The little-endian value of `n` bytes (R94, R108). -/
def Memory.readLE (m : Memory) (k : Nat) (n : Nat) : Nat :=
  match n with
  | 0 => 0
  | n + 1 => (m.read k).toNat + 256 * m.readLE (k + 1) n

/-- The low `n` bytes of `v` written little-endian (R94, R108). -/
def Memory.writeLE (m : Memory) (k : Nat) (n : Nat) (v : Nat) : Memory :=
  match n with
  | 0 => m
  | n + 1 => (m.write k (BitVec.ofNat 8 v)).writeLE (k + 1) n (v / 256)

end Sys2Proof.Machine
end

