-- ==== Sys2Proof/Machine/ArmOps.lean ====
section
/-! DEFINITION. The operations of the ARM core: registers, the memory chain, peripherals, cycle accounting, the stack check,
PC writes (47_arm_core_pipeline.md). -/

namespace Sys2Proof.Machine

/-- The answer of an operation that may stop. -/
def run (o : Except Stop State) : Result :=
  match o with
  | .ok s => .next s
  | .error (.fault f) => .fault f
  | .error (.refused r) => .refused r

/-- The state with its ARM part changed. -/
def State.mapArm (f : Arm → Arm) (s : State) : State := { s with arm := f s.arm }

/-! ### Registers and flags -/

/-- `R[i]`; `R[15]` reads as the instruction address plus 4 while an instruction executes (R481). -/
def Arm.reg (a : Arm) (i : AnyReg) : Word := a.r[i.toNat]'i.isLt

/-- `R[i] <- v`. -/
def Arm.setReg (i : AnyReg) (v : Word) (a : Arm) : Arm := { a with r := a.r.set i.toNat v i.isLt }

/-- The register a three-bit field names (R530). -/
def lowReg (i : LowReg) : AnyReg := i.setWidth 4

/-- `setNZ32(r)` (R534). -/
def Arm.setNZ (r : Word) (a : Arm) : Arm := { a with n := r.msb, z := r == 0 }

/-- The C flag. -/
def Arm.setC (c : Bool) (a : Arm) : Arm := { a with c := c }

/-- All four flags of an `addFlags` (R534). -/
def Arm.setNZCV (o : ArmOut) (a : Arm) : Arm := { a with n := o.n, z := o.z, c := o.c, v := o.v }

/-- The CPSR: N, Z, C, V in bits 31..28 and the Thumb bit, bit 5, always 1 (R51). -/
def Arm.cpsr (a : Arm) : Word :=
  BitVec.ofBool a.n ++ BitVec.ofBool a.z ++ BitVec.ofBool a.c ++ BitVec.ofBool a.v ++ 0x20#28

/-- A write of `T` to the PC: bit 0 cleared, `wrotePC <- true` (R482). -/
def Arm.writePC (t : Word) (a : Arm) : Arm := { a.setReg 15 (t &&& 0xFFFFFFFE) with wrotePC := true }

/-! ### Cycle accounting (R497 to R501, R505) -/

/-- Cycle units in one ARM cycle: the denominator that makes `stretchFlash` exact (R497; log 19). -/
def Params.unit (p : Params) : Nat := 1000 * max p.armClkDen 1 * max p.flashDen 1

/-- `stretchFlash` in cycle units: `max(1, ARM_CLK_MHZ × FLASH_ACCESS_NS / 1000)` (R497). -/
def Params.stretchUnits (p : Params) : Nat := max p.unit (p.armClkNum * p.flashNum)

/-- A bus cycle of the ARM: a fetch or data access, sequential or not, or an internal cycle (R498). -/
inductive ArmCycle where
  | fetch (sequential : Bool) (addr : Word)
  | data (sequential : Bool) (addr : Word)
  | internal
  deriving DecidableEq, Repr

/-- `addr .. addr+n-1` lies within a region (R490). -/
def inRegion (origin : Word) (size : Nat) (addr : Word) (n : Nat) : Bool :=
  decide (origin.toNat ≤ addr.toNat ∧ addr.toNat + n ≤ origin.toNat + size)

/-- Within program memory (R490). -/
def Params.inProgram (p : Params) (addr : Word) (n : Nat) : Bool := inRegion p.programOrigin p.programSize addr n

/-- Within variable memory (R490). -/
def Params.inVariable (p : Params) (addr : Word) (n : Nat) : Bool := inRegion p.variableOrigin p.variableSize addr n

/-- Whether the MAM hides the flash latency of a cycle (R505; mode 3 is log 17). -/
def mamHides (mode : BitVec 2) (sequential fetch : Bool) : Bool :=
  if mode = 0 then false
  else if mode = 1 then sequential && fetch
  else if mode = 2 then sequential
  else Config.mamReservedHides sequential fetch

/-- The cost of a memory cycle in cycle units, after an internal cycle or not (R497, R499, R505). R497 prices cycles to program
memory, variable memory and the peripherals; that a cycle at an address in none of them (an illegal access, the refill at the
reset LR or at a StrongARM entry) costs 1 is the model's choice (log 39). -/
def memCost (p : Params) (mode : BitVec 2) (afterI sequential fetch : Bool) (addr : Word) : Nat :=
  if !p.inProgram addr 1 || mamHides mode sequential fetch then p.unit
  else if afterI && sequential then max p.unit (p.stretchUnits - p.unit)
  else p.stretchUnits

/-- The cost of a cycle in cycle units. -/
def cycleCost (p : Params) (a : Arm) : ArmCycle → Nat
  | .fetch sq addr => memCost p a.mamcr a.lastWasI sq true addr
  | .data sq addr => memCost p a.mamcr a.lastWasI sq false addr
  | .internal => p.unit

/-- The N, S or I count with one cycle more. -/
def CycleCounts.add (k : CycleCounts) : ArmCycle → CycleCounts
  | .fetch true _ | .data true _ => { k with s := k.s + 1 }
  | .fetch false _ | .data false _ => { k with n := k.n + 1 }
  | .internal => { k with i := k.i + 1 }

/-- One bus cycle charged to the instruction in progress (R498, R499). -/
def Arm.charge (p : Params) (a : Arm) (k : ArmCycle) : Arm :=
  { a with
    instr := a.instr.add k
    instrUnits := a.instrUnits + cycleCost p a k
    lastWasI := k == .internal }

/-- The bus cycles of an instruction charged, in order. -/
def State.charge (ks : List ArmCycle) (s : State) : State := s.mapArm (fun a => ks.foldl (Arm.charge s.params) a)

/-- `1S`: the fetch alone (R500). -/
def State.charge1S (s : State) : State := s.charge [.fetch true s.arm.executingPC]

/-- `2S + 1N` of a PC write to `t`: the fetch and the refill (R482, R500; addresses log 18). -/
def State.chargeBranch (t : Word) (s : State) : State :=
  s.charge [.fetch true s.arm.executingPC, .fetch false (t &&& 0xFFFFFFFE), .fetch true ((t &&& 0xFFFFFFFE) + 2)]

/-! ### Peripherals (R492, R493, R505) -/

/-- The state of a timer after an instruction's stretched cycles (R492). -/
def Timer.advance (unit units : Nat) (t : Timer) : Timer :=
  if t.ctrl.getLsbD 0 then
    { t with count := t.count + BitVec.ofNat 32 ((t.frac + units) / unit), frac := (t.frac + units) % unit }
  else t

/-- A write of a timer's control word: bit 1 sets the counter to 0 (R492). -/
def Timer.writeCtrl (v : Word) (t : Timer) : Timer :=
  { t with ctrl := v, count := if v.getLsbD 1 then 0 else t.count }

/-- A write of a timer's counter (R492 is silent: log 16). -/
def Timer.writeCount (v : Word) (t : Timer) : Timer := { t with count := Config.timerCounterWrite t.count v }

/-- The registers of the four peripherals, in the order of the chain (R490). -/
inductive PeriphReg where
  | timerCtrl | timerCount | timer2Ctrl | timer2Count | rngData | mamcr | mamtim
  deriving DecidableEq, Repr

/-- The control and counter of one timer at an address (R491). -/
def timerAt (m : Option TimerMap) (ctrl count : PeriphReg) (addr : Word) : Option PeriphReg :=
  match m with
  | none => none
  | some m => if addr = m.ctrl then some ctrl else if addr = m.count then some count else none

/-- The peripheral that claims an address: timer, timer2, RNG, MAM, the first match winning (R490, R491). -/
def Params.peripheral (p : Params) (addr : Word) : Option PeriphReg :=
  match timerAt p.timerMap .timerCtrl .timerCount addr with
  | some r => some r
  | none =>
    match timerAt p.timer2Map .timer2Ctrl .timer2Count addr with
    | some r => some r
    | none =>
      if p.rngData = some addr then some .rngData
      else if p.mamcr = some addr then some .mamcr
      else if p.mamtim = some addr then some .mamtim
      else none

/-- The low `n` bytes of a word (R108; sub-word peripheral accesses are log 16). -/
def lowBytes (n : Nat) (v : Word) : Word := BitVec.ofNat 32 (v.toNat % 256 ^ n)

/-- A peripheral register read (R492, R493, R505). That a timer's control address reads as the word last written, bit 1 with it, is
the model's choice: R492 speaks of the counter only (log 16). -/
def Arm.periphRead (r : PeriphReg) (n : Nat) (a : Arm) : Word × Arm :=
  match r with
  | .timerCtrl => (lowBytes n a.timer.ctrl, a)
  | .timerCount => (lowBytes n a.timer.count, a)
  | .timer2Ctrl => (lowBytes n a.timer2.ctrl, a)
  | .timer2Count => (lowBytes n a.timer2.count, a)
  | .rngData =>
    (lowBytes n (Config.rng a.rngCount), { a with rngCount := a.rngCount + 1, rngLast := Config.rng a.rngCount })
  | .mamcr => (lowBytes n (a.mamcr.setWidth 32), a)
  | .mamtim => (lowBytes n (a.mamtim.setWidth 32), a)

/-- A peripheral register write; the RNG ignores it (R492, R493, R505). -/
def Arm.periphWrite (r : PeriphReg) (v : Word) (a : Arm) : Arm :=
  match r with
  | .timerCtrl => { a with timer := a.timer.writeCtrl v }
  | .timerCount => { a with timer := a.timer.writeCount v }
  | .timer2Ctrl => { a with timer2 := a.timer2.writeCtrl v }
  | .timer2Count => { a with timer2 := a.timer2.writeCount v }
  | .rngData => a
  | .mamcr => { a with mamcr := v.setWidth 2 }
  | .mamtim => { a with mamtim := v.setWidth 3 }

/-! ### The memory chain (R490) -/

/-- `illegal(addr, kind)`: logged, and a yield under `AbortOnMemoryFault` (R490, R661). -/
def State.armIllegal (isRead : Bool) (addr : Word) (s : State) : State :=
  { s with
    log := .armBusError addr isRead s.arm.executingPC (decide (addr.toNat < s.params.nullLimit.toNat)) :: s.log
    arm := if s.params.abortOnMemoryFault then { s.arm with yield := .memoryAccessError } else s.arm }

/-- `ArmRead(addr, n)` (R490, R108). -/
def State.armRead (addr : Word) (n : Nat) (s : State) : Word × State :=
  if addr.toNat % n ≠ 0 then (0, s.armIllegal true addr)
  else if s.params.inProgram addr n then (BitVec.ofNat 32 (s.arm.progMem.readLE addr.toNat n), s)
  else if s.params.inVariable addr n then (BitVec.ofNat 32 (s.arm.varMem.readLE addr.toNat n), s)
  else
    match s.params.peripheral addr with
    | some r => ((s.arm.periphRead r n).1, { s with arm := (s.arm.periphRead r n).2 })
    | none => (0, s.armIllegal true addr)

/-- `ArmWrite(addr, n, v)` (R490, R108). -/
def State.armWrite (addr : Word) (n : Nat) (v : Word) (s : State) : State :=
  if addr.toNat % n ≠ 0 then s.armIllegal false addr
  else if s.params.inVariable addr n then
    s.mapArm (fun a => { a with varMem := a.varMem.writeLE addr.toNat n v.toNat })
  else if s.params.inProgram addr n then
    (if s.params.programWritable then
      s.mapArm (fun a => { a with progMem := a.progMem.writeLE addr.toNat n v.toNat })
     else s.armIllegal false addr)
  else
    match s.params.peripheral addr with
    | some r => s.mapArm (fun a => a.periphWrite r (lowBytes n v))
    | none => s.armIllegal false addr

/-- `R[13]` written: the stack check of R494. -/
def State.stackCheck (s : State) : State :=
  let sp := s.arm.reg 13
  if s.arm.stackCheck ∧ s.arm.variableMemTop ≠ 0 ∧ sp.toNat ≤ s.arm.variableMemTop.toNat ∧
      s.params.variableOrigin.toNat ≤ sp.toNat then
    { s with
      log := .armStackCollision sp s.arm.executingPC :: s.log
      arm := { s.arm with
        stackCheck := false
        yield := if s.params.abortOnMemoryFault then .stackError else s.arm.yield } }
  else s

/-- `R[i] <- v` of a form that writes no PC, with the stack check when `i` is 13 (R494). -/
def State.setRegChecked (i : AnyReg) (v : Word) (s : State) : State :=
  let s := s.mapArm (Arm.setReg i v)
  if i = 13 then s.stackCheck else s

/-- `R[i]`. -/
def State.reg (i : AnyReg) (s : State) : Word := s.arm.reg i

/-- `R[i]` of a three-bit field. -/
def State.low (i : LowReg) (s : State) : Word := s.arm.reg (lowReg i)

/-- `R[i] <- v` for a three-bit field. -/
def State.setLow (i : LowReg) (v : Word) (s : State) : State := s.mapArm (Arm.setReg (lowReg i) v)

/-! ### Register lists (R591 to R594) -/

/-- The registers a list names, in ascending order (R591). -/
def listRegs (list : Byte) : List AnyReg :=
  ((List.range 8).filter (fun i => list.getLsbD i)).map (fun i => BitVec.ofNat 4 i)

/-- The registers stored at `a, a + 4, …` (R591, R593). -/
def State.storeRegs (regs : List AnyReg) (addr : Word) (s : State) : State :=
  match regs with
  | [] => s
  | r :: rest => State.storeRegs rest (addr + 4) (s.armWrite addr 4 (s.reg r))

/-- The registers loaded from `a, a + 4, …` (R592, R594). -/
def State.loadRegs (regs : List AnyReg) (addr : Word) (s : State) : State :=
  match regs with
  | [] => s
  | r :: rest =>
    let x := s.armRead addr 4
    State.loadRegs rest (addr + 4) (x.2.mapArm (Arm.setReg r x.1))

/-- The data cycles of a multiple transfer: the first N, later ones S (R498). -/
def multiData (addr : Word) (n : Nat) : List ArmCycle :=
  (List.range n).map (fun k => ArmCycle.data (k != 0) (addr + BitVec.ofNat 32 (4 * k)))

end Sys2Proof.Machine
end

