-- ==== Sys2Proof/Machine/ThumbAlu.lean ====
section
/-! DEFINITION. Thumb formats 1 to 5, 12 and 13 but for BX: shifts, arithmetic, logic, moves, compares, address generation
(R536 to R568, R587 to R590). -/

namespace Sys2Proof.Machine

/-! ### Shared shapes -/

/-- `R[Rd] <- r; setNZ32(r)`. -/
def State.thumbLogic (rd : LowReg) (r : Word) (s : State) : State :=
  s.mapArm (fun a => (a.setReg (lowReg rd) r).setNZ r)

/-- `R[Rd] <- r; setNZ32(r)` with the carry of a shift. -/
def State.thumbShift (rd : LowReg) (rc : Word × Bool) (s : State) : State :=
  s.mapArm (fun a => ((a.setReg (lowReg rd) rc.1).setNZ rc.1).setC rc.2)

/-- `R[Rd] <- addFlags(…)`. -/
def State.thumbArith (rd : LowReg) (o : ArmOut) (s : State) : State :=
  s.mapArm (fun a => (a.setReg (lowReg rd) o.r).setNZCV o)

/-- `addFlags(…)`, the result discarded. -/
def State.thumbCompare (o : ArmOut) (s : State) : State := s.mapArm (fun a => a.setNZCV o)

/-- `1S + kI` (R500). -/
def State.charge1SI (k : Nat) (s : State) : State :=
  s.charge (.fetch true s.arm.executingPC :: List.replicate k .internal)

/-- An immediate shift amount: 0 encodes 32 for LSR and ASR (R537, R538). -/
def shiftAmount (off : BitVec 5) : Nat := if off = 0 then 32 else off.toNat

/-- The shift amount of a register form: bits 7..0 (R552). -/
def regAmount (v : Word) : Nat := v.toNat % 256

/-- The word-aligned PC of formats 6 and 12: `(X + 4) & 0xFFFFFFFC` (R481). -/
def State.alignedPC (s : State) : Word := s.reg 15 &&& 0xFFFFFFFC

/-! ### Format 1 -/

/-- R536. -/
def execTLslImm (rd rs : LowReg) (off : BitVec 5) (s : State) : Result :=
  .next (s.charge1S.thumbShift rd (lslFlags (s.low rs) off.toNat s.arm.c))

/-- R537. -/
def execTLsrImm (rd rs : LowReg) (off : BitVec 5) (s : State) : Result :=
  .next (s.charge1S.thumbShift rd (lsrFlags (s.low rs) (shiftAmount off) s.arm.c))

/-- R538. -/
def execTAsrImm (rd rs : LowReg) (off : BitVec 5) (s : State) : Result :=
  .next (s.charge1S.thumbShift rd (asrFlags (s.low rs) (shiftAmount off) s.arm.c))

/-! ### Formats 2 and 3 -/

/-- R540. -/
def execTAddReg (rd rs rn : LowReg) (s : State) : Result :=
  .next (s.charge1S.thumbArith rd (addFlags (s.low rs) (s.low rn) false))

/-- R541. -/
def execTSubReg (rd rs rn : LowReg) (s : State) : Result :=
  .next (s.charge1S.thumbArith rd (addFlags (s.low rs) (~~~ s.low rn) true))

/-- R542. -/
def execTAddImm3 (rd rs : LowReg) (imm : BitVec 3) (s : State) : Result :=
  .next (s.charge1S.thumbArith rd (addFlags (s.low rs) (imm.setWidth 32) false))

/-- R543. -/
def execTSubImm3 (rd rs : LowReg) (imm : BitVec 3) (s : State) : Result :=
  .next (s.charge1S.thumbArith rd (addFlags (s.low rs) (~~~ imm.setWidth 32) true))

/-- R545. -/
def execTMovImm (rd : LowReg) (imm : Byte) (s : State) : Result :=
  .next (s.charge1S.thumbLogic rd (imm.setWidth 32))

/-- R546. -/
def execTCmpImm (rd : LowReg) (imm : Byte) (s : State) : Result :=
  .next (s.charge1S.thumbCompare (addFlags (s.low rd) (~~~ imm.setWidth 32) true))

/-- R547. -/
def execTAddImm8 (rd : LowReg) (imm : Byte) (s : State) : Result :=
  .next (s.charge1S.thumbArith rd (addFlags (s.low rd) (imm.setWidth 32) false))

/-- R548. -/
def execTSubImm8 (rd : LowReg) (imm : Byte) (s : State) : Result :=
  .next (s.charge1S.thumbArith rd (addFlags (s.low rd) (~~~ imm.setWidth 32) true))

/-! ### Format 4 -/

/-- R550. -/
def execTAnd (rd rs : LowReg) (s : State) : Result := .next (s.charge1S.thumbLogic rd (s.low rd &&& s.low rs))

/-- R551. -/
def execTEor (rd rs : LowReg) (s : State) : Result := .next (s.charge1S.thumbLogic rd (s.low rd ^^^ s.low rs))

/-- R552. -/
def execTLslReg (rd rs : LowReg) (s : State) : Result :=
  .next ((s.charge1SI 1).thumbShift rd (lslFlags (s.low rd) (regAmount (s.low rs)) s.arm.c))

/-- R553. -/
def execTLsrReg (rd rs : LowReg) (s : State) : Result :=
  .next ((s.charge1SI 1).thumbShift rd (lsrFlags (s.low rd) (regAmount (s.low rs)) s.arm.c))

/-- R554. -/
def execTAsrReg (rd rs : LowReg) (s : State) : Result :=
  .next ((s.charge1SI 1).thumbShift rd (asrFlags (s.low rd) (regAmount (s.low rs)) s.arm.c))

/-- R555. -/
def execTAdc (rd rs : LowReg) (s : State) : Result :=
  .next (s.charge1S.thumbArith rd (addFlags (s.low rd) (s.low rs) s.arm.c))

/-- R556. -/
def execTSbc (rd rs : LowReg) (s : State) : Result :=
  .next (s.charge1S.thumbArith rd (addFlags (s.low rd) (~~~ s.low rs) s.arm.c))

/-- R557. -/
def execTRorReg (rd rs : LowReg) (s : State) : Result :=
  .next ((s.charge1SI 1).thumbShift rd (rorFlags (s.low rd) (regAmount (s.low rs)) s.arm.c))

/-- R558. -/
def execTTst (rd rs : LowReg) (s : State) : Result :=
  .next (s.charge1S.mapArm (Arm.setNZ (s.low rd &&& s.low rs)))

/-- R559. -/
def execTNeg (rd rs : LowReg) (s : State) : Result :=
  .next (s.charge1S.thumbArith rd (addFlags 0 (~~~ s.low rs) true))

/-- R560. -/
def execTCmpReg (rd rs : LowReg) (s : State) : Result :=
  .next (s.charge1S.thumbCompare (addFlags (s.low rd) (~~~ s.low rs) true))

/-- R561. -/
def execTCmn (rd rs : LowReg) (s : State) : Result :=
  .next (s.charge1S.thumbCompare (addFlags (s.low rd) (s.low rs) false))

/-- R562. -/
def execTOrr (rd rs : LowReg) (s : State) : Result := .next (s.charge1S.thumbLogic rd (s.low rd ||| s.low rs))

/-- R563: C takes the next free value (log 13). -/
def execTMul (rd rs : LowReg) (s : State) : Result :=
  .next (((s.charge1SI (mulCycles (s.low rd))).thumbLogic rd (s.low rs * s.low rd)).mapArm
    (fun a => { a with c := Config.mulCarry a.freeCount, freeCount := a.freeCount + 1 }))

/-- R564. -/
def execTBic (rd rs : LowReg) (s : State) : Result :=
  .next (s.charge1S.thumbLogic rd (s.low rd &&& ~~~ s.low rs))

/-- R565. -/
def execTMvn (rd rs : LowReg) (s : State) : Result := .next (s.charge1S.thumbLogic rd (~~~ s.low rs))

/-! ### Format 5 -/

/-- R566. -/
def execTAddHi (rd rs : AnyReg) (s : State) : Result :=
  let r := s.reg rd + s.reg rs
  if rd = 15 then .next ((s.chargeBranch r).mapArm (Arm.writePC r)) else .next (s.charge1S.setRegChecked rd r)

/-- R567. -/
def execTCmpHi (rd rs : AnyReg) (s : State) : Result :=
  .next (s.charge1S.thumbCompare (addFlags (s.reg rd) (~~~ s.reg rs) true))

/-- R568. -/
def execTMovHi (rd rs : AnyReg) (s : State) : Result :=
  if rd = 15 then .next ((s.chargeBranch (s.reg rs)).mapArm (Arm.writePC (s.reg rs)))
  else .next (s.charge1S.setRegChecked rd (s.reg rs))

/-! ### Formats 12 and 13 -/

/-- A byte immediate times 4. -/
def words8 (imm : Byte) : Word := BitVec.ofNat 32 (4 * imm.toNat)

/-- A seven-bit immediate times 4. -/
def words7 (imm : BitVec 7) : Word := BitVec.ofNat 32 (4 * imm.toNat)

/-- R587. -/
def execTAddPc (rd : LowReg) (imm : Byte) (s : State) : Result :=
  .next (s.charge1S.setLow rd (s.alignedPC + words8 imm))

/-- R588. -/
def execTAddSp (rd : LowReg) (imm : Byte) (s : State) : Result :=
  .next (s.charge1S.setLow rd (s.reg 13 + words8 imm))

/-- R589. -/
def execTAddSpImm (imm : BitVec 7) (s : State) : Result :=
  .next (s.charge1S.setRegChecked 13 (s.reg 13 + words7 imm))

/-- R590. -/
def execTSubSpImm (imm : BitVec 7) (s : State) : Result :=
  .next (s.charge1S.setRegChecked 13 (s.reg 13 - words7 imm))

end Sys2Proof.Machine
end

