-- ==== Sys2Proof/Machine/ThumbMem.lean ====
section
/-! DEFINITION. Thumb formats 6 to 11, 14 and 15: loads, stores and multiple transfers (R570 to R586, R591 to R594). -/

namespace Sys2Proof.Machine

/-! ### Shared shapes -/

/-- A load of one register: `1S + 1N + 1I`, then `R[Rd] <- ext(ArmRead(addr, n))` (R500). -/
def State.thumbLoad (rd : LowReg) (addr : Word) (n : Nat) (ext : Word → Word) (s : State) : State :=
  let x := (s.charge [.fetch true s.arm.executingPC, .data false addr, .internal]).armRead addr n
  x.2.setLow rd (ext x.1)

/-- A store of one register: `2N`, then `ArmWrite(addr, n, R[Rd])`, of which the low `n` bytes are written (R500). -/
def State.thumbStore (rd : LowReg) (addr : Word) (n : Nat) (s : State) : State :=
  (s.charge [.fetch false s.arm.executingPC, .data false addr]).armWrite addr n (s.low rd)

/-- `sext_8` to a word (R577). -/
def sext8 (v : Word) : Word := (v.setWidth 8).signExtend 32

/-- `sext_16` to a word (R578). -/
def sext16 (v : Word) : Word := (v.setWidth 16).signExtend 32

/-- A five-bit immediate times a scale. -/
def scaled5 (k : Nat) (off : BitVec 5) : Word := BitVec.ofNat 32 (k * off.toNat)

/-! ### Formats 6 to 8 -/

/-- R570. -/
def execTLdrPc (rd : LowReg) (imm : Byte) (s : State) : Result :=
  .next (s.thumbLoad rd (s.alignedPC + words8 imm) 4 id)

/-- R571. -/
def execTStrReg (rd rb ro : LowReg) (s : State) : Result := .next (s.thumbStore rd (s.low rb + s.low ro) 4)

/-- R572. -/
def execTStrbReg (rd rb ro : LowReg) (s : State) : Result := .next (s.thumbStore rd (s.low rb + s.low ro) 1)

/-- R573. -/
def execTLdrReg (rd rb ro : LowReg) (s : State) : Result := .next (s.thumbLoad rd (s.low rb + s.low ro) 4 id)

/-- R574. -/
def execTLdrbReg (rd rb ro : LowReg) (s : State) : Result := .next (s.thumbLoad rd (s.low rb + s.low ro) 1 id)

/-- R575. -/
def execTStrhReg (rd rb ro : LowReg) (s : State) : Result := .next (s.thumbStore rd (s.low rb + s.low ro) 2)

/-- R576. -/
def execTLdrhReg (rd rb ro : LowReg) (s : State) : Result := .next (s.thumbLoad rd (s.low rb + s.low ro) 2 id)

/-- R577. -/
def execTLdsbReg (rd rb ro : LowReg) (s : State) : Result := .next (s.thumbLoad rd (s.low rb + s.low ro) 1 sext8)

/-- R578. -/
def execTLdshReg (rd rb ro : LowReg) (s : State) : Result := .next (s.thumbLoad rd (s.low rb + s.low ro) 2 sext16)

/-! ### Formats 9 to 11 -/

/-- R579. -/
def execTStrImm (rd rb : LowReg) (off : BitVec 5) (s : State) : Result :=
  .next (s.thumbStore rd (s.low rb + scaled5 4 off) 4)

/-- R580. -/
def execTLdrImm (rd rb : LowReg) (off : BitVec 5) (s : State) : Result :=
  .next (s.thumbLoad rd (s.low rb + scaled5 4 off) 4 id)

/-- R581. -/
def execTStrbImm (rd rb : LowReg) (off : BitVec 5) (s : State) : Result :=
  .next (s.thumbStore rd (s.low rb + scaled5 1 off) 1)

/-- R582. -/
def execTLdrbImm (rd rb : LowReg) (off : BitVec 5) (s : State) : Result :=
  .next (s.thumbLoad rd (s.low rb + scaled5 1 off) 1 id)

/-- R583. -/
def execTStrhImm (rd rb : LowReg) (off : BitVec 5) (s : State) : Result :=
  .next (s.thumbStore rd (s.low rb + scaled5 2 off) 2)

/-- R584. -/
def execTLdrhImm (rd rb : LowReg) (off : BitVec 5) (s : State) : Result :=
  .next (s.thumbLoad rd (s.low rb + scaled5 2 off) 2 id)

/-- R585: the base is `R[13]` whatever it holds (log 34). -/
def execTStrSp (rd : LowReg) (imm : Byte) (s : State) : Result := .next (s.thumbStore rd (s.reg 13 + words8 imm) 4)

/-- R586: the base is `R[13]` whatever it holds (log 34). -/
def execTLdrSp (rd : LowReg) (imm : Byte) (s : State) : Result :=
  .next (s.thumbLoad rd (s.reg 13 + words8 imm) 4 id)

/-! ### Formats 14 and 15 -/

/-- The registers PUSH stores: the list, then LR (R591). -/
def pushRegs (r : BitVec 1) (list : Byte) : List AnyReg := listRegs list ++ (if r = 1 then [14] else [])

/-- `4n` for a list of registers. -/
def bytesOf (regs : List AnyReg) : Word := BitVec.ofNat 32 (4 * regs.length)

/-- R591. -/
def execTPush (r : BitVec 1) (list : Byte) (s : State) : Result :=
  let regs := pushRegs r list
  let addr := s.reg 13 - bytesOf regs
  if regs = [] then .refused .emptyRegisterList
  else
    .next (((s.charge (.fetch false s.arm.executingPC :: multiData addr regs.length)).storeRegs regs addr).setRegChecked
      13 addr)

/-- The register file and SP part of POP: the listed registers loaded, then `R[13]` past what is popped (R592). -/
def State.popRegs (regs : List AnyReg) (total : Nat) (s : State) : State :=
  let addr := s.reg 13
  let s := (s.charge (.fetch true s.arm.executingPC :: multiData addr total ++ [.internal])).loadRegs regs addr
  s.mapArm (Arm.setReg 13 (addr + BitVec.ofNat 32 (4 * total)))

/-- R592: with `R` the last word goes to the PC; the PC's load address is that word's. -/
def execTPop (r : BitVec 1) (list : Byte) (s : State) : Result :=
  let regs := listRegs list
  if r = 0 then
    (if regs = [] then .refused .emptyRegisterList else .next (s.popRegs regs regs.length).stackCheck)
  else
    let s' := s.popRegs regs (regs.length + 1)
    let x := s'.armRead (s.reg 13 + bytesOf regs) 4
    let t := x.1 &&& 0xFFFFFFFE
    .next ((x.2.stackCheck.charge [.fetch false t, .fetch true (t + 2)]).mapArm (Arm.writePC x.1))

/-- R593. -/
def execTStmia (rb : LowReg) (list : Byte) (s : State) : Result :=
  let regs := listRegs list
  let addr := s.low rb
  if regs = [] then .refused .emptyRegisterList
  else if baseNotLowest rb list then .refused .stmiaBaseNotLowest
  else
    .next (((s.charge (.fetch false s.arm.executingPC :: multiData addr regs.length)).storeRegs regs addr).setLow rb
      (addr + bytesOf regs))

/-- R594: the base is written back unless it is in the list. -/
def execTLdmia (rb : LowReg) (list : Byte) (s : State) : Result :=
  let regs := listRegs list
  let addr := s.low rb
  if regs = [] then .refused .emptyRegisterList
  else
    let s' := (s.charge (.fetch true s.arm.executingPC :: multiData addr regs.length ++ [.internal])).loadRegs regs addr
    .next (if list.getLsbD rb.toNat then s' else s'.setLow rb (addr + bytesOf regs))

end Sys2Proof.Machine
end

