-- ==== Sys2Proof/Machine/ThumbBranch.lean ====
section
/-! DEFINITION. Thumb branches: BX, the conditional branches, SWI, B and the two halves of BL (R569, R595 to R602). -/

namespace Sys2Proof.Machine

/-- A taken branch to `t` (R482, R500). -/
def State.thumbJump (t : Word) (s : State) : State := (s.chargeBranch t).mapArm (Arm.writePC t)

/-- `X + 4 + sext(off) × 2` (R595, R597); `R[15]` reads `X + 4`. -/
def State.branchTarget {w : Nat} (off : BitVec w) (s : State) : Word := s.reg 15 + (off.signExtend 32 <<< 1)

/-- A conditional branch (R595). -/
def State.condBranch (cond : Nat) (off : Byte) (s : State) : State :=
  if condition cond s.arm.n s.arm.z s.arm.c s.arm.v then s.thumbJump (s.branchTarget off) else s.charge1S

/-- R569. -/
def execTBx (rs : AnyReg) (s : State) : Result :=
  if (s.reg rs).getLsbD 0 then .next (s.thumbJump (s.reg rs)) else .fault .armStateNotSupported

/-- R595, condition 0 of R535. -/
def execTBeq (off : Byte) (s : State) : Result := .next (s.condBranch 0 off)

/-- R595, condition 1 of R535. -/
def execTBne (off : Byte) (s : State) : Result := .next (s.condBranch 1 off)

/-- R595, condition 2 of R535. -/
def execTBcs (off : Byte) (s : State) : Result := .next (s.condBranch 2 off)

/-- R595, condition 3 of R535. -/
def execTBcc (off : Byte) (s : State) : Result := .next (s.condBranch 3 off)

/-- R595, condition 4 of R535. -/
def execTBmi (off : Byte) (s : State) : Result := .next (s.condBranch 4 off)

/-- R595, condition 5 of R535. -/
def execTBpl (off : Byte) (s : State) : Result := .next (s.condBranch 5 off)

/-- R595, condition 6 of R535. -/
def execTBvs (off : Byte) (s : State) : Result := .next (s.condBranch 6 off)

/-- R595, condition 7 of R535. -/
def execTBvc (off : Byte) (s : State) : Result := .next (s.condBranch 7 off)

/-- R595, condition 8 of R535. -/
def execTBhi (off : Byte) (s : State) : Result := .next (s.condBranch 8 off)

/-- R595, condition 9 of R535. -/
def execTBls (off : Byte) (s : State) : Result := .next (s.condBranch 9 off)

/-- R595, condition 10 of R535. -/
def execTBge (off : Byte) (s : State) : Result := .next (s.condBranch 10 off)

/-- R595, condition 11 of R535. -/
def execTBlt (off : Byte) (s : State) : Result := .next (s.condBranch 11 off)

/-- R595, condition 12 of R535. -/
def execTBgt (off : Byte) (s : State) : Result := .next (s.condBranch 12 off)

/-- R595, condition 13 of R535. -/
def execTBle (off : Byte) (s : State) : Result := .next (s.condBranch 13 off)

/-- R596: the core has no exception entry for it. -/
def execTSwi (_imm : Byte) (_s : State) : Result := .fault .unhandledOpcodeClass

/-- R597. -/
def execTB (off : BitVec 11) (s : State) : Result := .next (s.thumbJump (s.branchTarget off))

/-- R601. -/
def execTBlHi (off : BitVec 11) (s : State) : Result :=
  .next (s.charge1S.mapArm (Arm.setReg 14 (s.reg 15 + (off.signExtend 32 <<< 12))))

/-- R602: the return address is that of the next instruction with bit 0 set; `R[15]` reads `X2 + 4`. -/
def execTBlLo (off : BitVec 11) (s : State) : Result :=
  let t := s.reg 14 + (off.setWidth 32 <<< 1)
  .next ((s.chargeBranch t).mapArm (fun a => Arm.writePC t (a.setReg 14 ((s.reg 15 - 2) ||| 1))))

end Sys2Proof.Machine
end

