-- ==== Sys2Proof/Machine/ArmRun.lean ====
section
/-! DEFINITION. The ARM run loop: one instruction with its fetch, pipeline and accounts, `Run()`, yields and resume
(R470 to R486). -/

namespace Sys2Proof.Machine

/-- The meaning of a decoded halfword: the one its row of the dispatch names. -/
def thumbExec (i : ThumbInstr) (s : State) : Result :=
  match i with
  | .tLslImm rd rs off => execTLslImm rd rs off s
  | .tLsrImm rd rs off => execTLsrImm rd rs off s
  | .tAsrImm rd rs off => execTAsrImm rd rs off s
  | .tAddReg rd rs rn => execTAddReg rd rs rn s
  | .tSubReg rd rs rn => execTSubReg rd rs rn s
  | .tAddImm3 rd rs imm => execTAddImm3 rd rs imm s
  | .tSubImm3 rd rs imm => execTSubImm3 rd rs imm s
  | .tMovImm rd imm => execTMovImm rd imm s
  | .tCmpImm rd imm => execTCmpImm rd imm s
  | .tAddImm8 rd imm => execTAddImm8 rd imm s
  | .tSubImm8 rd imm => execTSubImm8 rd imm s
  | .tAnd rd rs => execTAnd rd rs s
  | .tEor rd rs => execTEor rd rs s
  | .tLslReg rd rs => execTLslReg rd rs s
  | .tLsrReg rd rs => execTLsrReg rd rs s
  | .tAsrReg rd rs => execTAsrReg rd rs s
  | .tAdc rd rs => execTAdc rd rs s
  | .tSbc rd rs => execTSbc rd rs s
  | .tRorReg rd rs => execTRorReg rd rs s
  | .tTst rd rs => execTTst rd rs s
  | .tNeg rd rs => execTNeg rd rs s
  | .tCmpReg rd rs => execTCmpReg rd rs s
  | .tCmn rd rs => execTCmn rd rs s
  | .tOrr rd rs => execTOrr rd rs s
  | .tMul rd rs => execTMul rd rs s
  | .tBic rd rs => execTBic rd rs s
  | .tMvn rd rs => execTMvn rd rs s
  | .tAddHi rd rs => execTAddHi rd rs s
  | .tCmpHi rd rs => execTCmpHi rd rs s
  | .tMovHi rd rs => execTMovHi rd rs s
  | .tBx rs => execTBx rs s
  | .tLdrPc rd imm => execTLdrPc rd imm s
  | .tStrReg rd rb ro => execTStrReg rd rb ro s
  | .tStrbReg rd rb ro => execTStrbReg rd rb ro s
  | .tLdrReg rd rb ro => execTLdrReg rd rb ro s
  | .tLdrbReg rd rb ro => execTLdrbReg rd rb ro s
  | .tStrhReg rd rb ro => execTStrhReg rd rb ro s
  | .tLdrhReg rd rb ro => execTLdrhReg rd rb ro s
  | .tLdsbReg rd rb ro => execTLdsbReg rd rb ro s
  | .tLdshReg rd rb ro => execTLdshReg rd rb ro s
  | .tStrImm rd rb off => execTStrImm rd rb off s
  | .tLdrImm rd rb off => execTLdrImm rd rb off s
  | .tStrbImm rd rb off => execTStrbImm rd rb off s
  | .tLdrbImm rd rb off => execTLdrbImm rd rb off s
  | .tStrhImm rd rb off => execTStrhImm rd rb off s
  | .tLdrhImm rd rb off => execTLdrhImm rd rb off s
  | .tStrSp rd imm => execTStrSp rd imm s
  | .tLdrSp rd imm => execTLdrSp rd imm s
  | .tAddPc rd imm => execTAddPc rd imm s
  | .tAddSp rd imm => execTAddSp rd imm s
  | .tAddSpImm imm => execTAddSpImm imm s
  | .tSubSpImm imm => execTSubSpImm imm s
  | .tPush r list => execTPush r list s
  | .tPop r list => execTPop r list s
  | .tStmia rb list => execTStmia rb list s
  | .tLdmia rb list => execTLdmia rb list s
  | .tBeq off => execTBeq off s
  | .tBne off => execTBne off s
  | .tBcs off => execTBcs off s
  | .tBcc off => execTBcc off s
  | .tBmi off => execTBmi off s
  | .tBpl off => execTBpl off s
  | .tBvs off => execTBvs off s
  | .tBvc off => execTBvc off s
  | .tBhi off => execTBhi off s
  | .tBls off => execTBls off s
  | .tBge off => execTBge off s
  | .tBlt off => execTBlt off s
  | .tBgt off => execTBgt off s
  | .tBle off => execTBle off s
  | .tSwi imm => execTSwi imm s
  | .tB off => execTB off s
  | .tBlHi off => execTBlHi off s
  | .tBlLo off => execTBlLo off s

/-- The tag of the StrongARM function whose entry an address is (R486, R491). -/
def Params.entryTag (p : Params) (addr : Word) : Option FnTag :=
  (p.strongArmEntries.find? (fun e => e.1 == addr)).map (fun e => e.2)

/-- The steps of a StrongARM function, if the table holds it (R631). -/
def Params.functionSteps (p : Params) (f : FnTag) : Option (List ShimStep) :=
  (p.strongArmFunctions.find? (fun e => e.1 == f)).map (fun e => e.2)

/-- `startFunction(f)`: the arguments are captured and the ARM yields (R486, R621). -/
def State.startFunction (f : FnTag) (s : State) : State :=
  { s with
    shim := { s.shim with running := ⟨some f, 0, #v[s.reg 0, s.reg 1, s.reg 2, s.reg 3]⟩ }
    arm := { s.arm with yield := .syncWithVcs } }

/-- `executingPC` at a place of execution and `R[15]` two past it (R480). -/
def Arm.atPC (x : Word) (a : Arm) : Arm := { a.setReg 15 (x + 2) with executingPC := x, instructionPC := x }

/-- The end of `stepInstruction()`: where execution goes on, and what a PC write means (R476, R485, R486, R631). -/
def State.retirePC (x : Word) (s : State) : Except Stop State :=
  if s.arm.wrotePC then
    let t := s.reg 15
    let s := s.mapArm (Arm.atPC t)
    if t = s.params.armResetLr &&& 0xFFFFFFFE then .ok (s.mapArm (fun a => { a with yield := .programEnded }))
    else
      match s.params.entryTag t with
      | none => .ok s
      | some f =>
        if (s.params.functionSteps f).isSome then .ok (s.startFunction f)
        else .error (.refused .unknownStrongArmFunction)
  else .ok (s.mapArm (fun a => { a with executingPC := x + 2, instructionPC := x + 2 }))

/-- The instruction's stretched cycles booked: timers, totals, and the counts of this run (R471, R492, R498). They are booked
after its effect, so an instruction that writes a timer's control word is counted by the new word, and after a clear: R492
does not say (log 16). -/
def Arm.book (p : Params) (a : Arm) : Arm :=
  { a with
    timer := a.timer.advance p.unit a.instrUnits
    timer2 := a.timer2.advance p.unit a.instrUnits
    total := ⟨a.total.n + a.instr.n, a.total.s + a.instr.s, a.total.i + a.instr.i⟩
    cycles := a.cycles + a.instrUnits
    runUnits := a.runUnits + a.instrUnits
    runInstrs := a.runInstrs + 1 }

/-- Before an instruction executes: its counts cleared, `R[15]` at `X + 4`, `wrotePC <- false` (R476). -/
def Arm.beginInstr (x : Word) (a : Arm) : Arm :=
  { a.setReg 15 (x + 4) with instr := ⟨0, 0, 0⟩, instrUnits := 0, wrotePC := false }

/-- The fetch of `stepInstruction()`: the halfword at `executingPC`, and the state the instruction executes in. -/
def State.armFetch (s : State) : Half × State :=
  let x := s.arm.executingPC
  let w := s.armRead x 2
  (w.1.setWidth 16, w.2.mapArm (Arm.beginInstr x))

/-- `stepInstruction()` (R476). -/
def State.armInstr (s : State) : Except Stop State :=
  let f := s.armFetch
  match decodeHalf f.1 with
  | .error _ => .error (.fault .unhandledOpcodeClass)
  | .ok i =>
    match thumbExec i f.2 with
    | .fault e => .error (.fault e)
    | .refused r => .error (.refused r)
    | .next t =>
      match t.retirePC s.arm.executingPC with
      | .error e => .error e
      | .ok u => .ok (u.mapArm (Arm.book u.params))

/-- The limit test of `Run()` (R471, R479). -/
def State.overLimit (s : State) : Bool :=
  decide (s.params.armCycleLimit * s.params.unit < s.arm.runUnits ∨ s.params.armInstructionLimit < s.arm.runInstrs)

/-- One turn of the loop of `Run()`: the interrupt request, the breakpoint, the instruction, the limits (R471, R665). -/
def State.armIterate (s : State) : Except Stop State :=
  if s.arm.interruptReq then
    .ok (s.mapArm (fun a => { a with interruptReq := false, yield := .syncWithVcs }))
  else if !s.arm.skipBreak && s.params.breakpoints.contains s.arm.executingPC then
    .ok (s.mapArm (fun a => { a with yield := .breakpoint }))
  else
    match (s.mapArm (fun a => { a with skipBreak := false })).armInstr with
    | .error e => .error e
    | .ok t => if t.overLimit then .error (.fault .armLimit) else .ok t

/-- `resetRegisters()` (R474). -/
def Arm.resetRegisters (p : Params) (a : Arm) : Arm :=
  { a with
    r := Arm.resetRegs p
    executingPC := p.armResetPc
    instructionPC := p.armResetPc
    n := false
    z := false
    c := false
    v := false
    decode32 := false
    stackCheck := true
    lastWasI := false }

/-- The beginning of `Run()`: a reset after `ProgramEnded`, else a resume where the program yielded (R471, R473). -/
def Arm.beginRun (p : Params) (a : Arm) : Arm :=
  let b := if a.yield = .programEnded then a.resetRegisters p else a
  { b with skipBreak := a.yield == .breakpoint, yield := .running, runUnits := 0, runInstrs := 0 }

/-- The loop of `Run()`, which the instruction limit ends at the latest (R471, R479). -/
def State.armLoop (fuel : Nat) (s : State) : Except Stop State :=
  match fuel with
  | 0 => .error (.fault .armLimit)
  | fuel + 1 =>
    match s.armIterate with
    | .error e => .error e
    | .ok t => if t.arm.yield = .running then State.armLoop fuel t else .ok t

/-- The mapper's side of a `Run()` that has returned: the consumed cycles become debt (R507). -/
def State.endRun (s : State) : State := { s with mapper := { s.mapper with debt := s.mapper.debt + s.arm.runUnits } }

/-- `Run()` to its yield (R471). -/
def State.armRun (s : State) : Except Stop State :=
  match State.armLoop (s.params.armInstructionLimit + 2) (s.mapArm (Arm.beginRun s.params)) with
  | .error e => .error e
  | .ok t => .ok t.endRun

end Sys2Proof.Machine
end

