-- ==== Sys2Proof/Machine/Tia.lean ====
section
/-! DEFINITION. The TIA: counters, event scheduler, sprites, one tick, register writes and reads (46_tia…). -/

namespace Sys2Proof.Machine

/-! ### Counters (R400 to R404) -/

/-- The next phase (R402). -/
def PhaseClock.tick : PhaseClock → PhaseClock
  | .risingPhi1 => .fallingPhi1
  | .fallingPhi1 => .risingPhi2
  | .risingPhi2 => .fallingPhi2
  | .fallingPhi2 => .risingPhi1

/-- The number of a phase (R402). -/
def PhaseClock.idx : PhaseClock → Nat
  | .risingPhi1 => 0
  | .fallingPhi1 => 1
  | .risingPhi2 => 2
  | .fallingPhi2 => 3

/-- `HSYNC_LEN` (R401). -/
def hsyncLen : Nat := 57

/-- `SPRITE_LEN` (R401). -/
def spriteLen : Nat := 40

/-- `ClksVisible` (R5). -/
def clksVisible : Nat := 160

/-- `CLKS_HBLANK` (R5). -/
def clksHblank : Nat := 68

/-- One clock of a counter and phase-clock pair (R403). -/
def Counter.tick (len : Nat) (k : Counter) : Counter :=
  match k.pclk.tick with
  | .risingPhi1 => ⟨(k.count + 1) % len, .risingPhi1⟩
  | ph => ⟨k.count, ph⟩

/-- Where a pair stands within its cycle, in clocks (R404 for the horizontal pair). -/
def Counter.position (k : Counter) : Nat := 4 * k.count + k.pclk.idx

/-- `hclk` (R404). -/
def Tia.hclk (t : Tia) : Nat := t.ctr.position

/-! ### Sprites (R420 to R426) -/

/-- What a sprite's state machine depends on besides its own state (R422). -/
structure SpriteShape where
  nbits : Nat
  width : Nat
  startDelay : Nat
  /-- The copies field of NUSIZ; the ball has none. -/
  copies : Option (BitVec 3)
  deriving DecidableEq, Repr

/-- `startCopy(s, v)` (R423): the copy that starts when the position counter has just become `v`. -/
def startCopy (copies : Option (BitVec 3)) (v : Nat) : Option Nat :=
  if v = 39 then some 0
  else
    match copies with
    | none => none
    | some k =>
      if v = 3 ∧ (k = 1 ∨ k = 3) then some 1
      else if v = 7 ∧ (k = 2 ∨ k = 6) then some 1
      else if v = 7 ∧ k = 3 then some 2
      else if v = 15 ∧ k = 4 then some 1
      else if v = 15 ∧ k = 6 then some 2
      else none

/-- The first part of `spriteTick`: the phase and the scan counter (R422). -/
def Sprite.advancePhase (sh : SpriteShape) (sp : Sprite) : Sprite :=
  match sp.phase with
  | .idle => sp
  | .latching n =>
    if n ≤ 1 then { sp with phase := .active, scan := { sp.scan with bit := 0, sub := 0 } }
    else { sp with phase := .latching (n - 1) }
  | .active =>
    if sp.scan.sub + 1 = sh.width then
      { sp with
        scan := { sp.scan with sub := 0, bit := sp.scan.bit + 1 }
        phase := if sp.scan.bit + 1 = sh.nbits then .idle else .active }
    else { sp with scan := { sp.scan with sub := sp.scan.sub + 1 } }

/-- The copy, if any, whose start the clocked position counter reaches (R422, R423). -/
def Sprite.startOf (sh : SpriteShape) (ctr : Counter) : Option Nat :=
  match ctr.pclk with
  | .risingPhi1 => startCopy sh.copies ctr.count
  | _ => none

/-- The second part of `spriteTick`: the position counter, and a start it reaches (R422). A delay of 0 draws at once
(log 21). -/
def Sprite.advanceCounter (sh : SpriteShape) (sp : Sprite) : Sprite :=
  let ctr := sp.ctr.tick spriteLen
  match Sprite.startOf sh ctr with
  | none => { sp with ctr := ctr }
  | some c =>
    if sh.startDelay = 0 then { sp with ctr := ctr, phase := .active, scan := ⟨0, c, 0⟩ }
    else { sp with ctr := ctr, phase := .latching sh.startDelay, scan := { sp.scan with copy := c } }

/-- `spriteTick(s)`: one motion clock (R422). -/
def Sprite.tick (sh : SpriteShape) (sp : Sprite) : Sprite := (sp.advancePhase sh).advanceCounter sh

/-- Whether this motion clock makes the sprite enter `Active` with copy 0 (R426). -/
def Sprite.entersMain (sh : SpriteShape) (sp : Sprite) : Bool :=
  (sp.phase == .latching 1 && sp.scan.copy == 0) ||
    (sh.startDelay == 0 && Sprite.startOf sh (sp.ctr.tick spriteLen) == some 0)

/-- A double or quad width player adds one (R422, R429). -/
def adj (nusiz : BitVec 3) : Nat := if nusiz = 5 ∨ nusiz = 7 then 1 else 0

/-- Colour clocks per graphics bit of a player (R422, R424). -/
def playerWidth (nusiz : BitVec 3) : Nat := if nusiz = 5 then 2 else if nusiz = 7 then 4 else 1

/-- The sprite part of an object. -/
def Tia.sprite (t : Tia) : SpriteId → Sprite
  | .p0 => t.p0.sprite
  | .p1 => t.p1.sprite
  | .m0 => t.m0.sprite
  | .m1 => t.m1.sprite
  | .bl => t.bl.sprite

/-- The TIA with the sprite part of an object replaced. -/
def Tia.setSprite (t : Tia) (s : SpriteId) (sp : Sprite) : Tia :=
  match s with
  | .p0 => { t with p0 := { t.p0 with sprite := sp } }
  | .p1 => { t with p1 := { t.p1 with sprite := sp } }
  | .m0 => { t with m0 := { t.m0 with sprite := sp } }
  | .m1 => { t with m1 := { t.m1 with sprite := sp } }
  | .bl => { t with bl := { t.bl with sprite := sp } }

/-- The shape of each sprite (R422). -/
def Tia.shape (p : Params) (t : Tia) : SpriteId → SpriteShape
  | .p0 => ⟨8, playerWidth t.p0.nusiz, p.delays.startDraw + adj t.p0.nusiz, some t.p0.nusiz⟩
  | .p1 => ⟨8, playerWidth t.p1.nusiz, p.delays.startDraw + adj t.p1.nusiz, some t.p1.nusiz⟩
  | .m0 => ⟨1, 2 ^ t.m0.size.toNat, p.delays.startDraw, some t.m0.copies⟩
  | .m1 => ⟨1, 2 ^ t.m1.size.toNat, p.delays.startDraw, some t.m1.copies⟩
  | .bl => ⟨1, 2 ^ t.bl.size.toNat, p.delays.startDraw, none⟩

/-- The additional pixel of a sprite: that of its NUSIZ for a player, else none (R429). -/
def Tia.adjOf (t : Tia) : SpriteId → Nat
  | .p0 => adj t.p0.nusiz
  | .p1 => adj t.p1.nusiz
  | _ => 0

/-- The missile of the same number is reset while it is locked to its player (R426). -/
def Tia.lockMissile (t : Tia) : SpriteId → Tia
  | .p0 => if t.m0.resetToPlayer then t.setSprite .m0 { t.m0.sprite with ctr := Counter.zero } else t
  | .p1 => if t.m1.resetToPlayer then t.setSprite .m1 { t.m1.sprite with ctr := Counter.zero } else t
  | _ => t

/-- One motion clock of one sprite (R421, R422, R426). -/
def Tia.tickSprite (p : Params) (s : SpriteId) (t : Tia) : Tia :=
  let t' := t.setSprite s ((t.sprite s).tick (t.shape p s))
  if (t.sprite s).entersMain (t.shape p s) then t'.lockMissile s else t'

/-- The order in which sprites are clocked (R416, R433). -/
def spriteOrder : List SpriteId := [.p0, .p1, .m0, .m1, .bl]

/-- `hmovedPixel` moved right by `k` pixels (R417, R433). -/
def Tia.moveHmoved (k : Nat) (s : SpriteId) (t : Tia) : Tia :=
  t.setSprite s { t.sprite s with hmovedPixel := ((t.sprite s).hmovedPixel + k) % clksVisible }

/-! ### The HMOVE ripple (R433) -/

/-- One sprite's part of `rippleStep()` with the counter at `ct` (R433). -/
def Tia.rippleSprite (p : Params) (ct : Nat) (t : Tia) (s : SpriteId) : Tia :=
  let sp := t.sprite s
  let more := sp.moreHmove && ((sp.hm ^^^ 7).toNat != ct)
  let t := t.setSprite s { sp with moreHmove := more }
  if more && t.hblank then ((t.tickSprite p s).moveHmoved (clksVisible - 1) s) else t

/-- `rippleStep()` with the counter at `ct` (R433). -/
def Tia.ripple (p : Params) (ct : Nat) (t : Tia) : Tia :=
  let t := spriteOrder.foldl (Tia.rippleSprite p ct) t
  { t with hmoveCt := if ct = 0 then none else some (ct - 1) }

/-! ### Register effects (R419, R428 to R432, R438, R439, R445) -/

/-- The actions of `hclk == 0` (R417). -/
def Tia.startLine (t : Tia) : Tia := { t with hblank := true, wsync := false, hmoveLatch := false }

/-- One player's NUSIZ with the pixel bookkeeping of R430. -/
def Player.withNusiz (pl : Player) (k : BitVec 3) : Player :=
  let shift (x : Nat) : Nat := (x + clksVisible - adj pl.nusiz + adj k) % clksVisible
  { pl with
    nusiz := k
    sprite := { pl.sprite with
      resetPixel := if pl.nusiz = k then pl.sprite.resetPixel else shift pl.sprite.resetPixel
      hmovedPixel := if pl.nusiz = k then pl.sprite.hmovedPixel else shift pl.sprite.hmovedPixel } }

/-- `SetNUSIZ` for a caller with a wide value: above 7 it halts (R431); no 6507 write gets there. -/
def Player.setNusiz (pl : Player) (v : Nat) : Except Stop Player :=
  if 7 < v then .error (.fault .illegalNusiz) else .ok (pl.withNusiz (BitVec.ofNat 3 v))

/-- Bits 5..4 of a written byte. -/
def bits54 (v : Byte) : BitVec 2 := v.extractLsb' 4 2

/-- The colour bits 7..1 of a written byte (R439). -/
def colourBits (v : Byte) : BitVec 7 := v.extractLsb' 1 7

/-- A motion register takes bits 7..4 (R432). -/
def Sprite.withHm (sp : Sprite) (v : Byte) : Sprite := { sp with hm := v.extractLsb' 4 4 }

/-- What a write register does when it takes effect. -/
def Tia.applyRegister (t : Tia) (r : TiaReg) (v : Byte) : Tia :=
  match r with
  | .vsync =>
    { t with vsync := v.getLsbD 1, scanline := if t.vsync && !v.getLsbD 1 then 0 else t.scanline }
  | .vblank => { t with vblank := v.getLsbD 1, inptLatch := v.getLsbD 6, inptDump := v.getLsbD 7 }
  | .wsync => { t with wsync := true }
  | .rsync => Tia.startLine { t with ctr := Counter.zero }
  | .nusiz0 =>
    { t with p0 := t.p0.withNusiz (v.extractLsb' 0 3),
             m0 := { t.m0 with copies := v.extractLsb' 0 3, size := bits54 v } }
  | .nusiz1 =>
    { t with p1 := t.p1.withNusiz (v.extractLsb' 0 3),
             m1 := { t.m1 with copies := v.extractLsb' 0 3, size := bits54 v } }
  | .colup0 => { t with p0 := { t.p0 with colour := colourBits v } }
  | .colup1 => { t with p1 := { t.p1 with colour := colourBits v } }
  | .colupf => { t with pf := { t.pf with colupf := colourBits v } }
  | .colubk => { t with pf := { t.pf with colubk := colourBits v } }
  | .ctrlpf =>
    { t with pf := { t.pf with reflect := v.getLsbD 0, score := v.getLsbD 1, priority := v.getLsbD 2 },
             bl := { t.bl with size := bits54 v } }
  | .refp0 => { t with p0 := { t.p0 with reflect := v.getLsbD 3 } }
  | .refp1 => { t with p1 := { t.p1 with reflect := v.getLsbD 3 } }
  | .pf0 => { t with pf := { t.pf with pf0 := v.extractLsb' 4 4 } }
  | .pf1 => { t with pf := { t.pf with pf1 := v } }
  | .pf2 => { t with pf := { t.pf with pf2 := v } }
  | .resp0 => t
  | .resp1 => t
  | .resm0 => t
  | .resm1 => t
  | .resbl => t
  | .audc0 => { t with audio := { t.audio with audc0 := v.extractLsb' 0 4 } }
  | .audc1 => { t with audio := { t.audio with audc1 := v.extractLsb' 0 4 } }
  | .audf0 => { t with audio := { t.audio with audf0 := v.extractLsb' 0 5 } }
  | .audf1 => { t with audio := { t.audio with audf1 := v.extractLsb' 0 5 } }
  | .audv0 => { t with audio := { t.audio with audv0 := v.extractLsb' 0 4 } }
  | .audv1 => { t with audio := { t.audio with audv1 := v.extractLsb' 0 4 } }
  | .grp0 => { t with p0 := { t.p0 with gfxNew := v }, p1 := { t.p1 with gfxOld := t.p1.gfxNew } }
  | .grp1 =>
    { t with p1 := { t.p1 with gfxNew := v }, p0 := { t.p0 with gfxOld := t.p0.gfxNew },
             bl := { t.bl with enableOld := t.bl.enableNew } }
  | .enam0 => { t with m0 := { t.m0 with enable := v.getLsbD 1 } }
  | .enam1 => { t with m1 := { t.m1 with enable := v.getLsbD 1 } }
  | .enabl => { t with bl := { t.bl with enableNew := v.getLsbD 1 } }
  | .hmp0 => { t with p0 := { t.p0 with sprite := t.p0.sprite.withHm v } }
  | .hmp1 => { t with p1 := { t.p1 with sprite := t.p1.sprite.withHm v } }
  | .hmm0 => { t with m0 := { t.m0 with sprite := t.m0.sprite.withHm v } }
  | .hmm1 => { t with m1 := { t.m1 with sprite := t.m1.sprite.withHm v } }
  | .hmbl => { t with bl := { t.bl with sprite := t.bl.sprite.withHm v } }
  | .vdelp0 => { t with p0 := { t.p0 with vdel := v.getLsbD 0 } }
  | .vdelp1 => { t with p1 := { t.p1 with vdel := v.getLsbD 0 } }
  | .vdelbl => { t with bl := { t.bl with vdel := v.getLsbD 0 } }
  | .resmp0 => { t with m0 := { t.m0 with resetToPlayer := v.getLsbD 1 } }
  | .resmp1 => { t with m1 := { t.m1 with resetToPlayer := v.getLsbD 1 } }
  | .hmove =>
    let t := spriteOrder.foldl (fun t s => t.setSprite s { t.sprite s with moreHmove := true }) t
    { t with hmoveLatch := true, hmoveCt := some 15 }
  | .hmclr => spriteOrder.foldl (fun t s => t.setSprite s { t.sprite s with hm := 0 }) t
  | .cxclr => { t with cx := Collisions.clear }

/-- What an event does when it fires (R406, R428). -/
def Tia.applyPayload (t : Tia) : Payload → Tia
  | .register r v => t.applyRegister r v
  | .resetPos s => t.setSprite s { t.sprite s with ctr := Counter.zero }

/-! ### The scheduler (R406 to R411) -/

/-- The event groups in their order (R407). -/
inductive Group where
  | tia
  | sprite (s : SpriteId)
  | pf
  deriving DecidableEq, Repr

/-- The order of the groups (R407). -/
def groupOrder : List Group :=
  [.tia, .sprite .p0, .sprite .p1, .sprite .m0, .sprite .m1, .sprite .bl, .pf]

/-- The live events of a group. -/
def Tia.eventsOf (t : Tia) : Group → List Event
  | .tia => t.events
  | .sprite s => (t.sprite s).events
  | .pf => t.pf.events

/-- The TIA with a group's events replaced. -/
def Tia.setEvents (t : Tia) (g : Group) (es : List Event) : Tia :=
  match g with
  | .tia => { t with events := es }
  | .sprite s => t.setSprite s { t.sprite s with events := es }
  | .pf => { t with pf := { t.pf with events := es } }

/-- How many events are live in all groups (R410). -/
def Tia.liveEvents (t : Tia) : Nat := (groupOrder.map (fun g => (t.eventsOf g).length)).sum

/-- `SCHED_CAPACITY` (R5, R410). -/
def schedCapacity : Nat := 64

/-- `schedule(group, N, payload)` (R406, R410): with `N = 0` the payload is applied at once. -/
def Tia.schedule (g : Group) (n : Nat) (pl : Payload) (t : Tia) : Except Stop Tia :=
  if n = 0 then .ok (t.applyPayload pl)
  else if t.liveEvents < schedCapacity then .ok (t.setEvents g (t.eventsOf g ++ [⟨n, pl⟩]))
  else .error (.fault .schedulerFull)

/-- One group's part of `tickAll()`: the events whose count goes from 1 to 0 fire, oldest first; the others count
down (R407). -/
def Tia.tickGroup (t : Tia) (g : Group) : Tia :=
  let es := t.eventsOf g
  let live := (es.filter (fun e => 1 < e.remaining)).map (fun e => { e with remaining := e.remaining - 1 })
  (es.filter (fun e => e.remaining ≤ 1)).foldl (fun t e => t.applyPayload e.payload) (t.setEvents g live)

/-- `tickAll()` (R407). -/
def Tia.tickAll (t : Tia) : Tia := groupOrder.foldl Tia.tickGroup t

/-- `cancel(group)` for every group (R411). -/
def Tia.cancelAll (t : Tia) : Tia := groupOrder.foldl (fun t g => t.setEvents g []) t

/-! ### Pixels, collisions, the signal (R425 to R427, R442 to R444) -/

/-- Whether a sprite is drawing. -/
def Sprite.drawing (sp : Sprite) : Bool := sp.phase == .active

/-- A player's pixel (R425). -/
def Player.pixel (pl : Player) : Bool :=
  let g := if pl.vdel then pl.gfxOld else pl.gfxNew
  let i := if pl.reflect then pl.sprite.scan.bit else 7 - pl.sprite.scan.bit
  pl.sprite.drawing && g.getLsbD i

/-- A missile's pixel (R426). -/
def Missile.pixel (m : Missile) : Bool := m.sprite.drawing && m.enable && !m.resetToPlayer

/-- The ball's pixel (R426). -/
def Ball.pixel (b : Ball) : Bool := b.sprite.drawing && (if b.vdel then b.enableOld else b.enableNew)

/-- The playfield bit `i` of the 20-bit pattern (R427). -/
def Playfield.patternBit (pf : Playfield) (i : Nat) : Bool :=
  if i < 4 then pf.pf0.getLsbD i else if i < 12 then pf.pf1.getLsbD (11 - i) else pf.pf2.getLsbD (i - 12)

/-- The playfield pixel at visible pixel `x` (R427). -/
def Playfield.pixel (pf : Playfield) (x : Nat) : Bool :=
  let i := x % 80 / 4
  pf.patternBit (if 80 ≤ x ∧ pf.reflect then 19 - i else i)

/-- The visible pixel of this clock (R417). -/
def Tia.pixelX (t : Tia) : Nat := t.hclk - clksHblank

/-- The colour of this clock, `none` for blank (R442; the score mode where ball and playfield coincide is log 22). -/
def Tia.colour (t : Tia) : Option (BitVec 7) :=
  if t.hblank || t.vblank then none
  else
    let x := t.pixelX
    let p0 := t.p0.pixel || t.m0.pixel
    let p1 := t.p1.pixel || t.m1.pixel
    let field := t.pf.pixel x
    let pf := field || t.bl.pixel
    if t.pf.priority then
      some (if pf then t.pf.colupf else if p0 then t.p0.colour else if p1 then t.p1.colour else t.pf.colubk)
    else
      let pfColour :=
        if t.pf.score && field then (if x < 80 then t.p0.colour else t.p1.colour) else t.pf.colupf
      some (if p0 then t.p0.colour else if p1 then t.p1.colour else if pf then pfColour else t.pf.colubk)

/-- The latches of every pair whose objects both output a pixel (R443). -/
def Tia.collide (t : Tia) : Collisions :=
  if t.hblank || t.vblank then t.cx
  else
    let p0 := t.p0.pixel
    let p1 := t.p1.pixel
    let m0 := t.m0.pixel
    let m1 := t.m1.pixel
    let bl := t.bl.pixel
    let pf := t.pf.pixel t.pixelX
    { m0p1 := t.cx.m0p1 || (m0 && p1), m0p0 := t.cx.m0p0 || (m0 && p0),
      m1p0 := t.cx.m1p0 || (m1 && p0), m1p1 := t.cx.m1p1 || (m1 && p1),
      p0pf := t.cx.p0pf || (p0 && pf), p0bl := t.cx.p0bl || (p0 && bl),
      p1pf := t.cx.p1pf || (p1 && pf), p1bl := t.cx.p1bl || (p1 && bl),
      m0pf := t.cx.m0pf || (m0 && pf), m0bl := t.cx.m0bl || (m0 && bl),
      m1pf := t.cx.m1pf || (m1 && pf), m1bl := t.cx.m1bl || (m1 && bl),
      blpf := t.cx.blpf || (bl && pf), p0p1 := t.cx.p0p1 || (p0 && p1),
      m0m1 := t.cx.m0m1 || (m0 && m1) }

/-- Step 5 of `Tick()`: collisions, then the signal (R443, R444). -/
def Tia.emit (t : Tia) : Tia :=
  let cx := t.collide
  { t with
    cx := cx
    signal := { colour := t.colour, hblank := t.hblank, vblank := t.vblank, vsync := t.vsync, hsync := t.hsyncSig,
                audio := t.audio, collisions := cx } }

/-! ### One tick (R416, R417) -/

/-- Step 1 of `Tick()`: the horizontal pair (R404). -/
def Tia.clock (t : Tia) : Tia := { t with ctr := t.ctr.tick hsyncLen }

/-- Step 2 of `Tick()`: the horizontal decode, and the count of wraps (R417, R418). -/
def Tia.decodeLine (t : Tia) : Tia :=
  if t.hclk = 0 then { t.startLine with scanline := t.scanline + 1 }
  else if t.hclk = 16 then { t with hsyncSig := true }
  else if t.hclk = 32 then { t with hsyncSig := false }
  else if t.hclk = 68 then (if t.hmoveLatch then t else { t with hblank := false })
  else if t.hclk = 76 then
    (if t.hmoveLatch then spriteOrder.foldl (fun t s => t.moveHmoved 8 s) { t with hblank := false } else t)
  else t

/-- Step 3 of `Tick()`: the ripple, on the clocks where the phase is `RisingPhi2` (R416, R433). -/
def Tia.rippleStage (p : Params) (t : Tia) : Tia :=
  match t.hmoveCt, t.ctr.pclk with
  | some ct, .risingPhi2 => t.ripple p ct
  | _, _ => t

/-- Step 4 of `Tick()`: a motion clock for every sprite outside the horizontal blank (R416, R421). -/
def Tia.spriteStage (p : Params) (t : Tia) : Tia :=
  if t.hblank then t else spriteOrder.foldl (fun t s => t.tickSprite p s) t

/-- `Tick()`: one colour clock (R416). -/
def Tia.tick (p : Params) (t : Tia) : Tia :=
  (((t.clock.decodeLine.rippleStage p).spriteStage p).emit).tickAll

/-- `n` colour clocks. -/
def Tia.ticks (p : Params) (n : Nat) (t : Tia) : Tia :=
  match n with
  | 0 => t
  | n + 1 => Tia.ticks p n (t.tick p)

/-! ### Register writes (R428 to R431, R441, R450) -/

/-- The write registers by number (R450); the numbers from 2D on name none. -/
def tiaRegs : List TiaReg :=
  [.vsync, .vblank, .wsync, .rsync, .nusiz0, .nusiz1, .colup0, .colup1, .colupf, .colubk, .ctrlpf, .refp0, .refp1,
   .pf0, .pf1, .pf2,
   .resp0, .resp1, .resm0, .resm1, .resbl, .audc0, .audc1, .audf0, .audf1, .audv0, .audv1, .grp0, .grp1, .enam0,
   .enam1, .enabl,
   .hmp0, .hmp1, .hmm0, .hmm1, .hmbl, .vdelp0, .vdelp1, .vdelbl, .resmp0, .resmp1, .hmove, .hmclr, .cxclr]

/-- The sprite a strobe resets (R428). -/
def TiaReg.resets : TiaReg → Option SpriteId
  | .resp0 => some .p0
  | .resp1 => some .p1
  | .resm0 => some .m0
  | .resm1 => some .m1
  | .resbl => some .bl
  | _ => none

/-- The group that holds a register's event: that of the sprite the register is named for (R37; log 20). -/
def TiaReg.group : TiaReg → Group
  | .nusiz0 | .colup0 | .refp0 | .resp0 | .grp0 | .hmp0 | .vdelp0 => .sprite .p0
  | .nusiz1 | .colup1 | .refp1 | .resp1 | .grp1 | .hmp1 | .vdelp1 => .sprite .p1
  | .resm0 | .enam0 | .hmm0 | .resmp0 => .sprite .m0
  | .resm1 | .enam1 | .hmm1 | .resmp1 => .sprite .m1
  | .resbl | .enabl | .hmbl | .vdelbl => .sprite .bl
  | .colupf | .colubk | .ctrlpf | .pf0 | .pf1 | .pf2 => .pf
  | .vsync | .vblank | .wsync | .rsync | .audc0 | .audc1 | .audf0 | .audf1 | .audv0 | .audv1 | .hmove | .hmclr
  | .cxclr => .tia

/-- Whether a player's phase is `Latching` or `Active` (R430). -/
def Player.busy (pl : Player) : Bool := pl.sprite.phase != .idle

/-- The delay of a register that is no position strobe (R430, R441). -/
def Tia.delayOf (p : Params) (t : Tia) : TiaReg → Nat
  | .vsync | .vblank => p.delays.vblank
  | .rsync => p.delays.rsync
  | .nusiz0 => if t.p0.busy then p.delays.nusizActive else p.delays.nusiz
  | .nusiz1 => if t.p1.busy then p.delays.nusizActive else p.delays.nusiz
  | .pf0 | .pf1 | .pf2 => p.delays.pf
  | .grp0 | .grp1 => p.delays.grp
  | .enam0 | .enam1 | .enabl => p.delays.enable
  | .hmp0 | .hmp1 | .hmm0 | .hmm1 | .hmbl | .hmclr => p.delays.hm
  | .hmove => p.delays.hmove
  | _ => p.delays.other

/-- `resetDelay` (R428), lengthened by the heat function where that feature is on (R436). -/
def Tia.resetDelay (p : Params) (t : Tia) : Nat :=
  (if t.hblank then (if t.hmoveLatch then p.delays.resetHblankHmove else p.delays.resetHblank)
   else p.delays.resetVisible) +
  (if p.lateRespxHeat && Config.heatExtra t.scanline t.heat then 1 else 0)

/-- `resetPixel` at a position strobe (R429); 92 is minus 68 modulo 160. -/
def Tia.resetPixelAt (p : Params) (t : Tia) (s : SpriteId) : Nat :=
  (t.hclk + t.resetDelay p + t.adjOf s + (if t.hblank then 0 else clksVisible - clksHblank)) % clksVisible

/-- A write to a position strobe: the bookkeeping of R429, the heat history of R48, and the delayed reset (R428). -/
def Tia.strobeReset (p : Params) (s : SpriteId) (t : Tia) : Except Stop Tia :=
  let px := t.resetPixelAt p s
  let t' := t.setSprite s { t.sprite s with resetPixel := px, hmovedPixel := px }
  Tia.schedule (.sprite s) (t.resetDelay p) (.resetPos s)
    { t' with heat := if p.lateRespxHeat then Config.heatNext t.scanline t.heat else t.heat }

/-- A write to a named register. -/
def Tia.writeReg (p : Params) (r : TiaReg) (v : Byte) (t : Tia) : Except Stop Tia :=
  match r.resets with
  | some s => t.strobeReset p s
  | none => Tia.schedule r.group (t.delayOf p r) (.register r v) t

/-- `TiaWrite(reg, v)` (R450). -/
def Tia.write (p : Params) (reg : BitVec 6) (v : Byte) (t : Tia) : Except Stop Tia :=
  match tiaRegs[reg.toNat]? with
  | some r => t.writeReg p r v
  | none => .ok t

/-! ### Register reads (R451, R452) -/

/-- Bits 7 and 6 of a TIA read; the inputs are those of the given step (R451, log 10). -/
def Tia.readBits (steps : Nat) (t : Tia) (reg : BitVec 4) : Bool × Bool :=
  match reg.toNat with
  | 0 => (t.cx.m0p1, t.cx.m0p0)
  | 1 => (t.cx.m1p0, t.cx.m1p1)
  | 2 => (t.cx.p0pf, t.cx.p0bl)
  | 3 => (t.cx.p1pf, t.cx.p1bl)
  | 4 => (t.cx.m0pf, t.cx.m0bl)
  | 5 => (t.cx.m1pf, t.cx.m1bl)
  | 6 => (t.cx.blpf, false)
  | 7 => (t.cx.p0p1, t.cx.m0m1)
  | 8 => (Config.inpt steps t.inptLatch t.inptDump 0, false)
  | 9 => (Config.inpt steps t.inptLatch t.inptDump 1, false)
  | 10 => (Config.inpt steps t.inptLatch t.inptDump 2, false)
  | 11 => (Config.inpt steps t.inptLatch t.inptDump 3, false)
  | 12 => (Config.inpt steps t.inptLatch t.inptDump 4, false)
  | 13 => (Config.inpt steps t.inptLatch t.inptDump 5, false)
  | _ => (false, false)

/-- `TiaRead(reg)` with the undriven bits of R89 taken from `undriven`. -/
def Tia.read (steps : Nat) (t : Tia) (reg : BitVec 4) (undriven : Byte) : Byte :=
  let b := t.readBits steps reg
  BitVec.ofBool b.1 ++ BitVec.ofBool b.2 ++ undriven.extractLsb' 0 6

end Sys2Proof.Machine
end

