-- ==== Sys2Proof/Machine/Bus.lean ====
section
/-! DEFINITION. The bus: address ranges, the cartridge, the StrongARM shim, one bus access, and the rest of a driver step
(20_memory.md, 49_strongarm…, R507, R720). -/

namespace Sys2Proof.Machine

/-! ### Ranges (R81, R83) -/

/-- The four ranges of the 13-bit bus address (R83). -/
inductive Range where
  | tia | ram | riotIo | cartridge
  deriving DecidableEq, Repr

/-- The address the bus sees (R81). -/
def busAddr (a : Addr) : BusAddr := a.setWidth 13

/-- `range(a)` (R83). -/
def rangeOf (a : BusAddr) : Range :=
  if a.getLsbD 12 then .cartridge
  else if !a.getLsbD 7 then .tia
  else if !a.getLsbD 9 then .ram
  else .riotIo

/-- The RAM byte an address selects (R83). -/
def ramIndex (a : BusAddr) : Nat := (a.setWidth 7).toNat

/-- The cartridge offset an address selects (R83). -/
def cartOffset (a : BusAddr) : BitVec 12 := a.setWidth 12

/-! ### State parts -/

/-- The state with its 6507 changed. -/
def State.mapCpu (f : Cpu → Cpu) (s : State) : State := { s with cpu := f s.cpu }

/-- A logged event (R660). -/
def State.record (e : LogEntry) (s : State) : State := { s with log := e :: s.log }

/-! ### The cartridge (R92, R93) -/

/-- What a mapper with an open parameter looks at (R93). -/
def State.mapperView (s : State) : MapperView :=
  { bank := s.mapper.bank, rom := s.mapper.rom, romSize := s.mapper.romSize, cartRam := s.mapper.cartRam,
    shared := s.arm.varMem, busy := decide (0 < s.mapper.debt) }

/-- What such a mapper does to the state; only a coprocessor mapper has an ARM and a shim (R33, R93). -/
def State.applyEffect (e : MapperEffect) (s : State) : State :=
  let coproc : Bool := s.mapper.variant == .coproc
  { s with
    mapper := { s.mapper with
      bank := e.bank
      cartRam := s.mapper.cartRam.writes e.ramWrites
      triggered := s.mapper.triggered || (coproc && e.trigger) }
    arm :=
      if coproc then
        { s.arm with
          varMem := s.arm.varMem.writes e.sharedWrites
          variableMemTop := e.memTop.getD s.arm.variableMemTop
          interruptReq := s.arm.interruptReq || e.interrupt }
      else s.arm
    shim :=
      match coproc, e.masks with
      | true, some m => { s.shim with maskA := m.1, maskX := m.2.1, maskY := m.2.2 }
      | _, _ => s.shim }

/-- The mapper's own part of a machine reset (R700): bank selection, cartridge RAM and variable memory as it defines them,
`variableMemTop` as it supplies it or 0 (R57). `Flat` has none of these. -/
def State.mapperReset (s : State) : State :=
  match s.mapper.variant with
  | .flat => s
  | v =>
    let e := Config.mapperReset s.mapperView
    { s with
      mapper := { s.mapper with bank := e.bank, cartRam := s.mapper.cartRam.writes e.ramWrites }
      arm :=
        if v = .coproc then
          { s.arm with varMem := s.arm.varMem.writes e.sharedWrites, variableMemTop := e.memTop.getD 0 }
        else s.arm }

/-- The ROM byte at an offset of the flat mapper: `rom[off mod size]` (R92). -/
def Mapper.flatByte (m : Mapper) (off : BitVec 12) : Byte := m.rom.read (off.toNat % m.romSize)

/-- The bytes a shim-bearing mapper answers at the 6507's reset vector (R640, log 27). -/
def shimVector (p : Params) (off : BitVec 12) : Option Byte :=
  if p.strongArmEntries = [] then none
  else if off = 0xFFC then some 0x00
  else if off = 0xFFD then some 0x10
  else none

/-- `Mapper.read(off)` (R86, R92, R93), but for what the shim supplies. A read of the reset vector that a mapper with a shim answers
(R640) does nothing else in the mapper: whether its own read effect happens too the spec does not say (log 27). -/
def State.mapperRead (a : BusAddr) (s : State) : Byte × State :=
  match s.mapper.variant with
  | .flat => (s.mapper.flatByte (cartOffset a), s)
  | v =>
    match (if v = .coproc then shimVector s.params (cartOffset a) else none) with
    | some b => (b, s)
    | none =>
      let x := Config.mapperRead s.mapperView (cartOffset a)
      match x.1 with
      | some b => (b, s.applyEffect x.2)
      | none => (0, (s.applyEffect x.2).record (.busError a true))

/-- `Mapper.write(off, v)` (R86, R92, R93). -/
def State.mapperWrite (a : BusAddr) (v : Byte) (s : State) : State :=
  match s.mapper.variant with
  | .flat => s
  | _ =>
    match Config.mapperWrite s.mapperView (cartOffset a) v with
    | some e => s.applyEffect e
    | none => s.record (.busError a false)

/-- `Mapper.listen(a, v)` (R87), but for the shim. -/
def State.mapperListen (a : BusAddr) (v : Byte) (s : State) : State :=
  match s.mapper.variant with
  | .flat => s
  | _ => s.applyEffect (Config.mapperListen s.mapperView a v)

/-! ### The StrongARM shim (R620 to R635) -/

/-- A bus cycle as the shim sees it: address, direction and, for a write, the byte the 6507 drives (R625). -/
inductive BusCycle where
  | read (addr : BusAddr)
  | write (addr : BusAddr) (data : Byte)
  deriving DecidableEq, Repr

/-- The byte of a write cycle; a read has none (log 38). -/
def BusCycle.data : BusCycle → Byte
  | .read _ => 0
  | .write _ v => v

/-- The value a step names (R625, R628, R629, R631). -/
def Shim.value (sh : Shim) (k : BusCycle) : ShimSource → Word
  | .const w => w
  | .arg i => sh.running.regs[i.val]'i.isLt
  | .argByte i => ((sh.running.regs[i.val]'i.isLt).setWidth 8).setWidth 32
  | .storeOpcode i =>
    (Config.stuffOpcode sh.maskA sh.maskX sh.maskY ((sh.running.regs[i.val]'i.isLt).setWidth 8)).setWidth 32
  | .stuffData => sh.busStuffData.setWidth 32
  | .cycleData => k.data.setWidth 32

/-- The arguments a call of `pushFunction` names (R623). -/
def Shim.arguments (sh : Shim) (k : BusCycle) (args : Vector ShimSource 4) : Vector Word 4 :=
  #v[sh.value k args[0], sh.value k args[1], sh.value k args[2], sh.value k args[3]]

/-- A named value as a byte. -/
def Shim.byteOf (sh : Shim) (k : BusCycle) (v : ShimSource) : Byte := (sh.value k v).setWidth 8

/-- `0x1000 | ((expectedAddr + 1) & 0x0FFF)` (R626). -/
def nextExpected (a : BusAddr) : BusAddr := 1#1 ++ (a.setWidth 12 + 1)

/-- Whether a step's wait is over in this cycle (R626, R628, R631). -/
def Shim.ready (sh : Shim) (k : BusCycle) : ShimAct → Bool
  | .inject _ | .awaitRead =>
    match k with
    | .read a => a == sh.expectedAddr
    | .write _ _ => false
  | .stuffWrite x _ | .yieldDataBus x =>
    match k with
    | .read _ => false
    | .write a _ => a == (sh.value k x).setWidth 13
  | .anyCycle => true

/-- The byte the shim drives in a cycle that ends a step's wait (R626, R628). -/
def Shim.driven (sh : Shim) (k : BusCycle) : ShimAct → Option Byte
  | .inject v => some (sh.byteOf k v)
  | .stuffWrite _ d => some (sh.byteOf k d)
  | .yieldDataBus _ | .awaitRead | .anyCycle => none

/-- What the end of a step's wait does to the shim, before its state moves on (R626, R628, R631). -/
def Shim.perform (sh : Shim) (k : BusCycle) (st : ShimStep) : Shim :=
  let a : Shim :=
    match st.act with
    | .inject _ => { sh with expectedAddr := nextExpected sh.expectedAddr }
    | .stuffWrite _ _ => { sh with busStuff := false }
    | .yieldDataBus _ | .awaitRead | .anyCycle => sh
  let b : Shim :=
    match st.stuff with
    | some v => { a with busStuff := true, busStuffData := sh.byteOf k v }
    | none => a
  match st.expect with
  | some e => { b with expectedAddr := e }
  | none => b

/-- `endFunction()` (R622): back to the pushed function, or to the ARM, whose `Run()` follows in step 3 of this driver
step. R622 gives a result no width: it is a word here, and only a return to the ARM writes it (log 38). -/
def State.endFunction (result : Option Word) (s : State) : State :=
  if s.shim.pushed.fn.isSome then
    { s with shim := { s.shim with running := s.shim.pushed, pushed := { s.shim.pushed with fn := none } } }
  else
    let arm := match result with
      | some w => s.arm.setReg 0 w
      | none => s.arm
    { s with
      shim := { s.shim with running := { s.shim.running with fn := none }, busStuff := false }
      arm := arm.atPC (s.arm.reg 14 &&& 0xFFFFFFFE)
      mapper := { s.mapper with triggered := true } }

/-- `pushFunction(g, args)` by a function that has moved past the call (R623). -/
def State.pushFunction (g : FnTag) (args : Vector Word 4) (s : State) : Except Stop State :=
  if s.shim.pushed.fn.isSome then .error (.fault .doublePush)
  else if (s.params.functionSteps g).isNone then .error (.refused .unknownStrongArmFunction)
  else .ok { s with shim := { s.shim with pushed := s.shim.running, running := ⟨some g, 0, args⟩ } }

/-- The running function's current step, if one runs (R620). -/
def State.shimStep (s : State) : Option ShimStep :=
  if s.mapper.variant = .coproc then
    match s.shim.running.fn with
    | none => none
    | some f =>
      match s.params.functionSteps f with
      | none => none
      | some steps => steps[s.shim.running.state]?
  else none

/-- The running function with its state moved on (R623). -/
def Shim.moveOn (sh : Shim) : Shim := { sh with running := { sh.running with state := sh.running.state + 1 } }

/-- How the call goes on that ended a step's wait (R620, R622, R623). -/
def State.shimAdvance (k : BusCycle) (st : ShimStep) (s : State) : Except Stop State :=
  match st.andThen with
  | .advance => .ok { s with shim := s.shim.moveOn }
  | .push g args => State.pushFunction g (s.shim.arguments k args) { s with shim := s.shim.moveOn }
  | .finish result => .ok (s.endFunction (result.map (s.shim.value k)))

/-- One shim tick (R625): the byte it drives, if any. A cycle that does not match stalls the shim (R627). -/
def State.shimTick (k : BusCycle) (s : State) : Except Stop (Option Byte × State) :=
  match s.shimStep with
  | none => .ok (none, s)
  | some st =>
    if s.shim.ready k st.act then
      match State.shimAdvance k st { s with shim := s.shim.perform k st } with
      | .ok t => .ok (s.shim.driven k st.act, t)
      | .error e => .error e
    else .ok (none, s)

/-! ### One access (R86) -/

/-- The six undriven bits come from here (R89). -/
def State.undriven (s : State) : Byte :=
  match s.params.tiaUndriven with
  | .lastData => s.bus.lastData
  | .zero => 0

/-- `RiotIO.read(reg)` (R88, R91). -/
def State.riotRead (a : BusAddr) (s : State) : Byte × State :=
  let reg : BitVec 5 := a.setWidth 5
  let s' : State := { s with riot := { s.riot with accesses := (s.riot.steps, .read reg) :: s.riot.accesses } }
  match Config.riotRead s.riot.steps s.riot.accesses reg with
  | some b => (b, s')
  | none => (0, s'.record (.busError a true))

/-- `RiotIO.write(reg, v)` (R88, R91). -/
def State.riotWrite (a : BusAddr) (v : Byte) (s : State) : State :=
  let reg : BitVec 5 := a.setWidth 5
  if Config.riotWriteMapped reg then
    { s with riot := { s.riot with accesses := (s.riot.steps, .write reg v) :: s.riot.accesses } }
  else s.record (.busError a false)

/-- The value a read finds before the shim, and what finding it does (R86). -/
def State.deviceRead (a : BusAddr) (s : State) : Byte × State :=
  match rangeOf a with
  | .tia => (s.tia.read s.riot.steps (a.setWidth 4) s.undriven, s)
  | .ram => (s.riot.ram.read (ramIndex a), s)
  | .riotIo => s.riotRead a
  | .cartridge => s.mapperRead a

/-- What the CPU's pins and the data-bus latch hold after an access (R27, R31). In a stuffed write both hold the delivered byte: of
`lastData` R628 says so, of the pins `dbus` nothing is said (log 38). -/
def State.latchBus (addr : Addr) (v : Byte) (isRead : Bool) (s : State) : State :=
  { s with bus := { abus := addr, dbus := v, isRead := isRead, lastData := v } }

/-- `MemRead(addr, 1)` (R86): the shim's call stands inside `Mapper.read` for the cartridge and in the notification for
the other ranges (R625). A cartridge read that the shim answers does nothing else in the mapper: whether the mapper's own
read effect would happen too the spec does not say (log 38). -/
def State.busRead (addr : Addr) (s : State) : Except Stop (Byte × State) :=
  let a := busAddr addr
  match s.shimTick (.read a) with
  | .error e => .error e
  | .ok (drive, t) =>
    let x :=
      match rangeOf a, drive with
      | .cartridge, some b => (b, t)
      | _, _ => t.deviceRead a
    .ok (x.1, (x.2.mapperListen a x.1).latchBus addr x.1 true)

/-- A TIA write that waits for ticks of phase 2 (R721). -/
abbrev HeldWrite := BitVec 6 × Byte

/-- A write routed to its device; a TIA write acts at once in phase 0, else it is held (R86, R721). -/
def State.deviceWrite (a : BusAddr) (v : Byte) (s : State) : Except Stop (Option HeldWrite × State) :=
  match rangeOf a with
  | .tia =>
    if s.params.tiaWritePhase = 0 then
      match s.tia.write s.params (a.setWidth 6) v with
      | .ok t => .ok (none, { s with tia := t })
      | .error e => .error e
    else .ok (some (a.setWidth 6, v), s)
  | .ram => .ok (none, { s with riot := { s.riot with ram := s.riot.ram.write (ramIndex a) v } })
  | .riotIo => .ok (none, s.riotWrite a v)
  | .cartridge => .ok (none, s.mapperWrite a v)

/-- `MemWrite(addr, 1, v)` (R86), with `Mapper.busStuff` first (R625, R628). -/
def State.busWrite (addr : Addr) (v : Byte) (s : State) : Except Stop (Option HeldWrite × State) :=
  let a := busAddr addr
  match s.shimTick (.write a v) with
  | .error e => .error e
  | .ok (drive, t) =>
    let w := drive.getD v
    match t.deviceWrite a w with
    | .error e => .error e
    | .ok (held, u) => .ok (held, (u.mapperListen a w).latchBus addr w false)

/-! ### The rest of a driver step (R507, R720, R721) -/

/-- `RiotIO.step()` (R720). -/
def State.riotStep (s : State) : State := { s with riot := { s.riot with steps := s.riot.steps + 1 } }

/-- `k` TIA ticks. -/
def State.tiaTicks (k : Nat) (s : State) : State := { s with tia := s.tia.ticks s.params k }

/-- Phase 2: three ticks, a held write acting after the first `k` of them (R416, R721). -/
def State.phase2 (held : Option HeldWrite) (s : State) : Except Stop State :=
  match held with
  | none => .ok (s.tiaTicks 3)
  | some w =>
    let k := s.params.tiaWritePhase.val
    let s := s.tiaTicks k
    match s.tia.write s.params w.1 w.2 with
    | .ok t => .ok (State.tiaTicks (3 - k) { s with tia := t })
    | .error e => .error e

/-- A yield after which the mapper does not run the program again (R495, R663). -/
def Yield.fatal : Yield → Bool
  | .memoryAccessError | .stackError => true
  | _ => false

/-- The cycles allowed in a driver step, and the carry (R507). -/
def Mapper.allow (p : Params) (m : Mapper) : Nat × Nat :=
  let den := max p.armPerCpuDen 1
  ((m.armCarry + p.armPerCpuNum) / den, (m.armCarry + p.armPerCpuNum) % den)

/-- The debt paid off with this step's allowance (R507). -/
def Mapper.pay (p : Params) (m : Mapper) : Mapper :=
  { m with armCarry := (m.allow p).2, debt := m.debt - (m.allow p).1 * p.unit }

/-- Phase 3, for a coprocessor mapper: a triggered coprocessor with no running function runs to its yield (R507). -/
def State.mapperStep (s : State) : Except Stop State :=
  if s.mapper.variant = .coproc then
    let t : State := { s with mapper := s.mapper.pay s.params }
    if t.mapper.triggered && t.shim.running.fn.isNone && !t.arm.yield.fatal then
      State.armRun { t with mapper := { t.mapper with triggered := false } }
    else .ok t
  else .ok s

/-- What follows the access in a driver step (R720). -/
def State.driverTail (held : Option HeldWrite) (s : State) : Except Stop State :=
  match s.riotStep.phase2 held with
  | .ok t => t.mapperStep
  | .error e => .error e

/-! ### Cycles of the 6507 (R350, R351, R374) -/

/-- More driver steps than RDY can stay low: a line for the wait, one more, and one for every pending event that could
restart it (log 32). -/
def State.waitFuel (s : State) : Nat := 76 * (s.tia.liveEvents + 2)

/-- Driver steps in which RDY stalls a read cycle (R374). -/
def State.waitReady (fuel : Nat) (s : State) : Except Stop State :=
  match fuel with
  | 0 => .ok s
  | fuel + 1 =>
    if s.tia.wsync then
      match s.driverTail none with
      | .ok t => State.waitReady fuel t
      | .error e => .error e
    else .ok s

/-- One more access of the instruction made (R350). -/
def Cpu.advanceT (k : Cpu) : Cpu := { k with t := k.t + 1 }

/-- A read cycle with the rest of its driver step (R351, R374, R720); the byte is also latched (R28). -/
def cycleRead (addr : Addr) (s : State) : Except Stop (Byte × State) := do
  let s ← s.waitReady s.waitFuel
  let x ← s.busRead addr
  let s ← x.2.driverTail none
  pure (x.1, s.mapCpu (fun k => { k.advanceT with dl := x.1 }))

/-- A write cycle with the rest of its driver step; RDY does not stall it (R351, R374, R720). -/
def cycleWrite (addr : Addr) (v : Byte) (s : State) : Except Stop State := do
  let x ← s.busWrite addr v
  let s ← x.2.driverTail x.1
  pure (s.mapCpu Cpu.advanceT)

end Sys2Proof.Machine
end

