-- ==== Sys2Proof/Machine/Ops.lean ====
section
/-! DEFINITION. The named operations of the 6507: the stack, taking the `Break` trap and returning from it, the reset
sequence, and the requests of the driver (R8, R653, R654, R702, R703, R477). -/

namespace Sys2Proof.Machine

/-- `PC <- v`. -/
def Cpu.setPC (v : Addr) (k : Cpu) : Cpu := { k with pc := v }

/-- `PC <- PC + 1` modulo 65536 (R24). -/
def Cpu.incPC (k : Cpu) : Cpu := { k with pc := k.pc + 1 }

/-- `SP <- SP - 1` modulo 256 (R23). -/
def Cpu.decSP (k : Cpu) : Cpu := { k with sp := k.sp - 1 }

/-- `SP <- SP + 1` modulo 256 (R23). -/
def Cpu.incSP (k : Cpu) : Cpu := { k with sp := k.sp + 1 }

/-- The address of a stack byte (R23). -/
def stackAddr (sp : Byte) : Addr := 0x01#8 ++ sp

/-- A read cycle whose byte is not used (R353). -/
def dummyRead (addr : Addr) (s : State) : Except Stop State := do
  let x ← cycleRead addr s
  pure x.2

/-- `push(v)` (R8). -/
def push (v : Byte) (s : State) : Except Stop State := do
  let s ← cycleWrite (stackAddr s.cpu.sp) v s
  pure (s.mapCpu Cpu.decSP)

/-- `pull()` (R8). -/
def pull (s : State) : Except Stop (Byte × State) := do
  let s := s.mapCpu Cpu.incSP
  cycleRead (stackAddr s.cpu.sp) s

/-- A byte fetched at the PC, which moves on (R24). -/
def fetchByte (s : State) : Except Stop (Byte × State) := do
  let x ← cycleRead s.cpu.pc s
  pure (x.1, x.2.mapCpu Cpu.incPC)

/-- The PC loaded from two bytes in memory, low byte first (R94, R98). -/
def loadPC (lo hi : Addr) (s : State) : Except Stop State := do
  let l ← cycleRead lo s
  let h ← cycleRead hi l.2
  pure (h.2.mapCpu (Cpu.setPC (h.1 ++ l.1)))

/-- Taking the `Break` trap (R264, R370, R653): the padding byte is read; the PC past it and the status with B set are
pushed; I is set; the PC is loaded from `0xFFFE`. On entry the PC is past the opcode. -/
def takeBreak (s : State) : Except Stop State := do
  let x ← fetchByte s
  let s := x.2
  let s ← push (s.cpu.pc.extractLsb' 8 8) s
  let s ← push (s.cpu.pc.extractLsb' 0 8) s
  let s ← push s.cpu.status s
  loadPC 0xFFFE 0xFFFF (s.mapCpu (fun k => { k with i := true }))

/-- The return from the trap (R263, R369, R654): the flags, then the PC, are pulled; bits 5 and 4 are ignored and nothing
is added. -/
def returnFromTrap (s : State) : Except Stop State := do
  let s ← dummyRead s.cpu.pc s
  let s ← dummyRead (stackAddr s.cpu.sp) s
  let p ← pull s
  let l ← pull (p.2.mapCpu (Cpu.withStatus p.1))
  let h ← pull l.2
  pure (h.2.mapCpu (Cpu.setPC (h.1 ++ l.1)))

/-- A stack cycle of the reset sequence: a read where the trap would write (R702). -/
def resetStackCycle (s : State) : Except Stop State := do
  let s ← dummyRead (stackAddr s.cpu.sp) s
  pure (s.mapCpu Cpu.decSP)

/-- The seven cycles of the reset sequence (R702). -/
def resetSequence (s : State) : Except Stop State := do
  let s ← dummyRead s.cpu.pc s
  let s ← dummyRead s.cpu.pc s
  let s ← resetStackCycle s
  let s ← resetStackCycle s
  let s ← resetStackCycle s
  let s ← loadPC 0xFFFC 0xFFFD (s.mapCpu (fun k => { k with i := true }))
  pure (s.mapCpu (fun k => { k with resetting := false, t := 0 }))

/-! ### Requests of the driver, made between steps (R13, R701, log 24) -/

/-- The ARM part of a machine reset (R700, R704): program memory is the cartridge's image again (R56); the registers stay,
`Run()` resets them; variable memory, which is the mapper's, and the RNG instance stay. -/
def Arm.machineReset (p : Params) (image : Memory) (a : Arm) : Arm :=
  { Arm.reset p with
    r := a.r, rngCount := a.rngCount, rngLast := a.rngLast, progMem := image, varMem := a.varMem,
    freeCount := a.freeCount }

/-- A hard reset is asserted (R700, R703, R704, R705), the mapper's own part last; the next step performs the sequence of
R702. `IR`, `ADL`, `ADH`, `BAL`, `DL` and `fix`, which R28 and R700 leave unspecified, keep their values (log 3). -/
def State.hardReset (s : State) : State :=
  State.mapperReset { s with
    cpu := { s.cpu with jammed := false, resetting := true, t := 0 }
    tia := Tia.reset
    mapper := { s.mapper with triggered := false, armCarry := 0, debt := 0 }
    arm := s.arm.machineReset s.params s.mapper.armImage
    shim := Shim.reset }

/-- A cartridge swap: the mapper, the parameters it supplies and all ARM and shim state are replaced, but for the RNG
instance, then the machine is reset (R700, R701). -/
def State.swapCartridge (m : Mapper) (c : CartParams) (s : State) : State :=
  let p : Params := { s.params with toCartParams := c }
  State.hardReset { s with
    params := p
    mapper := m
    arm := { Arm.reset p with
      rngCount := s.arm.rngCount, rngLast := s.arm.rngLast, freeCount := s.arm.freeCount } }

/-- `Interrupt()` of the ARM (R477). -/
def State.interrupt (s : State) : State := s.mapArm (fun a => { a with interruptReq := true })

end Sys2Proof.Machine
end

