-- ==== Sys2Proof/Machine/Operands.lean ====
section
/-! DEFINITION. Every addressing mode of the 6507 with the cycles it spends (R134 to R146, R355 to R366), and the shapes of
the instructions that use them. On entry the operand bytes have been fetched and the PC stands past them. -/

namespace Sys2Proof.Machine

/-- An addressing mode: it spends its cycles and delivers the effective address. -/
abbrev Ea := State → Except Stop (Addr × State)

/-- A zero-page address (R137). -/
def zp (b : Byte) : Addr := 0x00#8 ++ b

/-- The address latches and `fix` after an address has been formed (R28). -/
def Cpu.latchEA (a : Addr) (crossed : Bool) (k : Cpu) : Cpu :=
  { k with adl := a.extractLsb' 0 8, adh := a.extractLsb' 8 8, fix := crossed }

/-- The base and pointer latch (R28). -/
def Cpu.latchBase (b : Byte) (k : Cpu) : Cpu := { k with bal := b }

/-- An address delivered. -/
def deliver (a : Addr) (crossed : Bool) (s : State) : Addr × State := (a, s.mapCpu (Cpu.latchEA a crossed))

/-- `base + index` modulo 65536 (R141). -/
def indexed (lo hi idx : Byte) : Addr := (hi ++ lo) + idx.setWidth 16

/-- The address before its high byte is corrected (R357). -/
def uncorrected (lo hi idx : Byte) : Addr := hi ++ (lo + idx)

/-- "Page crossed" (R141, R144). -/
def pageCrossed (lo idx : Byte) : Bool := decide (0xFF < lo.toNat + idx.toNat)

/-- `zp` (R137, R356). -/
def eaZp (b1 : Byte) : Ea := fun s => .ok (deliver (zp b1) false s)

/-- A zero-page index: the unindexed address is read first, the sum wraps in page 0 (R138, R139, R359). -/
def eaZpIndexed (b1 idx : Byte) : Ea := fun s => do
  let s ← dummyRead (zp b1) s
  pure (deliver (zp (b1 + idx)) false s)

/-- `zp,X` (R138). -/
def eaZpx (b1 : Byte) : Ea := fun s => eaZpIndexed b1 s.cpu.x s

/-- `zp,Y` (R139). -/
def eaZpy (b1 : Byte) : Ea := fun s => eaZpIndexed b1 s.cpu.y s

/-- `abs` (R140, R360). -/
def eaAbs (b1 b2 : Byte) : Ea := fun s => .ok (deliver (b2 ++ b1) false s)

/-- An indexed address of a read: the uncorrected address is read only when a page is crossed (R357). -/
def eaIndexedRead (lo hi idx : Byte) : Ea := fun s =>
  if pageCrossed lo idx then do
    let s ← dummyRead (uncorrected lo hi idx) s
    pure (deliver (indexed lo hi idx) true s)
  else pure (deliver (indexed lo hi idx) false s)

/-- An indexed address of a store or read-modify-write: the uncorrected address is always read (R358). -/
def eaIndexedFixed (lo hi idx : Byte) : Ea := fun s => do
  let s ← dummyRead (uncorrected lo hi idx) s
  pure (deliver (indexed lo hi idx) (pageCrossed lo idx) s)

/-- `abs,X` of a read (R141). -/
def eaAbxRead (b1 b2 : Byte) : Ea := fun s => eaIndexedRead b1 b2 s.cpu.x s

/-- `abs,Y` of a read (R142). -/
def eaAbyRead (b1 b2 : Byte) : Ea := fun s => eaIndexedRead b1 b2 s.cpu.y s

/-- `abs,X` of a store or read-modify-write (R141, R358). -/
def eaAbxFixed (b1 b2 : Byte) : Ea := fun s => eaIndexedFixed b1 b2 s.cpu.x s

/-- `abs,Y` of a store or read-modify-write (R142, R358). -/
def eaAbyFixed (b1 b2 : Byte) : Ea := fun s => eaIndexedFixed b1 b2 s.cpu.y s

/-- The two bytes of a zero-page pointer, which wraps in page 0 (R94, R96): low byte, high byte. -/
def readPointer (p : Byte) (s : State) : Except Stop (Byte × Byte × State) := do
  let l ← cycleRead (zp p) (s.mapCpu (Cpu.latchBase p))
  let h ← cycleRead (zp (p + 1)) l.2
  pure (l.1, h.1, h.2)

/-- `(zp,X)` (R143, R362). -/
def eaIzx (b1 : Byte) : Ea := fun s => do
  let s ← dummyRead (zp b1) s
  let q ← readPointer (b1 + s.cpu.x) s
  pure (deliver (q.2.1 ++ q.1) false q.2.2)

/-- `(zp),Y` of a read (R144, R357). -/
def eaIzyRead (b1 : Byte) : Ea := fun s => do
  let q ← readPointer b1 s
  eaIndexedRead q.1 q.2.1 q.2.2.cpu.y q.2.2

/-- `(zp),Y` of a store or read-modify-write (R144, R358). -/
def eaIzyFixed (b1 : Byte) : Ea := fun s => do
  let q ← readPointer b1 s
  eaIndexedFixed q.1 q.2.1 q.2.2.cpu.y q.2.2

/-! ### Instruction shapes -/

/-- An immediate operand (R136, R355). -/
def immediate (op : Byte → Cpu → Cpu) (b1 : Byte) (s : State) : Except Stop State := .ok (s.mapCpu (op b1))

/-- A read instruction: `M` is read once at `EA` (R170, R200). -/
def readVia (ea : Ea) (op : Byte → Cpu → Cpu) (s : State) : Except Stop State := do
  let e ← ea s
  let x ← cycleRead e.1 e.2
  pure (x.2.mapCpu (op x.1))

/-- A store (R174 to R176, R316). -/
def storeVia (ea : Ea) (val : Cpu → Byte) (s : State) : Except Stop State := do
  let e ← ea s
  cycleWrite e.1 (val e.2.cpu) e.2

/-- A read-modify-write: a read, a write of the unmodified value, a write of the result; then the flags, and what the
instruction does with the result (R230, R311, R361). -/
def rmwVia (ea : Ea) (f : Byte → Bool → Byte × Bool) (post : Byte → Cpu → Cpu) (s : State) : Except Stop State := do
  let e ← ea s
  let x ← cycleRead e.1 e.2
  let r := f x.1 x.2.cpu.c
  let s ← cycleWrite e.1 x.1 x.2
  let s ← cycleWrite e.1 r.1 s
  pure (s.mapCpu (fun k => post r.1 { k with c := r.2 }))

/-- A one-byte instruction on registers: the next byte is read and discarded (R355). -/
def implied (op : Cpu → Cpu) (s : State) : Except Stop State := do
  let s ← dummyRead s.cpu.pc s
  pure (s.mapCpu op)

/-- An accumulator form of a shift (R135). -/
def Cpu.onA (f : Byte → Bool → Byte × Bool) (k : Cpu) : Cpu :=
  let r := f k.a k.c
  { (k.setNZ r.1) with a := r.1, c := r.2 }

/-- Where a branch goes (R145); the PC stands after the branch. -/
def branchTo (pcn : Addr) (off : Byte) : Addr := pcn + off.signExtend 16

/-- A conditional branch (R265, R366). -/
def branch (taken : Cpu → Bool) (off : Byte) (s : State) : Except Stop State :=
  if taken s.cpu then do
    let pcn := s.cpu.pc
    let target := branchTo pcn off
    let s ← dummyRead pcn s
    let s ←
      (if target.extractLsb' 8 8 = pcn.extractLsb' 8 8 then pure s
       else dummyRead (pcn.extractLsb' 8 8 ++ target.extractLsb' 0 8) s)
    pure (s.mapCpu (Cpu.setPC target))
  else pure s

/-- An undocumented opcode runs under `UNDOC_POLICY = execute` alone (R310). -/
def undoc (o : State → Except Stop State) (s : State) : Except Stop State :=
  match s.params.undocPolicy with
  | .execute => o s
  | .refuseAll => .error (.refused .undocumentedPolicy)

end Sys2Proof.Machine
end

