-- ==== Sys2Proof/Machine/LoadStore.lean ====
section
/-! DEFINITION. Loads, stores and register transfers (R170 to R182). -/

namespace Sys2Proof.Machine

/-- `A <- M; setNZ(M)` (R171). -/
def Cpu.loadA (m : Byte) (k : Cpu) : Cpu := { (k.setNZ m) with a := m }

/-- `X <- M; setNZ(M)` (R172). -/
def Cpu.loadX (m : Byte) (k : Cpu) : Cpu := { (k.setNZ m) with x := m }

/-- `Y <- M; setNZ(M)` (R173). -/
def Cpu.loadY (m : Byte) (k : Cpu) : Cpu := { (k.setNZ m) with y := m }

/-- `X <- A; setNZ(A)` (R177). -/
def Cpu.tax (k : Cpu) : Cpu := k.loadX k.a

/-- `Y <- A; setNZ(A)` (R178). -/
def Cpu.tay (k : Cpu) : Cpu := k.loadY k.a

/-- `A <- X; setNZ(X)` (R179). -/
def Cpu.txa (k : Cpu) : Cpu := k.loadA k.x

/-- `A <- Y; setNZ(Y)` (R180). -/
def Cpu.tya (k : Cpu) : Cpu := k.loadA k.y

/-- `X <- SP; setNZ(SP)` (R181). -/
def Cpu.tsx (k : Cpu) : Cpu := k.loadX k.sp

/-- `SP <- X`, no flag (R182). -/
def Cpu.txs (k : Cpu) : Cpu := { k with sp := k.x }

/-- LDA, opcode A1 (R171). -/
def execLdaIzx (b1 : Byte) (s : State) : Result := run (readVia (eaIzx b1) Cpu.loadA s)

/-- LDA, opcode A5 (R171). -/
def execLdaZp (b1 : Byte) (s : State) : Result := run (readVia (eaZp b1) Cpu.loadA s)

/-- LDA, opcode A9 (R171). -/
def execLdaImm (b1 : Byte) (s : State) : Result := run (immediate Cpu.loadA b1 s)

/-- LDA, opcode AD (R171). -/
def execLdaAbs (b1 b2 : Byte) (s : State) : Result := run (readVia (eaAbs b1 b2) Cpu.loadA s)

/-- LDA, opcode B1 (R171). -/
def execLdaIzy (b1 : Byte) (s : State) : Result := run (readVia (eaIzyRead b1) Cpu.loadA s)

/-- LDA, opcode B5 (R171). -/
def execLdaZpx (b1 : Byte) (s : State) : Result := run (readVia (eaZpx b1) Cpu.loadA s)

/-- LDA, opcode B9 (R171). -/
def execLdaAby (b1 b2 : Byte) (s : State) : Result := run (readVia (eaAbyRead b1 b2) Cpu.loadA s)

/-- LDA, opcode BD (R171). -/
def execLdaAbx (b1 b2 : Byte) (s : State) : Result := run (readVia (eaAbxRead b1 b2) Cpu.loadA s)

/-- LDX, opcode A2 (R172). -/
def execLdxImm (b1 : Byte) (s : State) : Result := run (immediate Cpu.loadX b1 s)

/-- LDX, opcode A6 (R172). -/
def execLdxZp (b1 : Byte) (s : State) : Result := run (readVia (eaZp b1) Cpu.loadX s)

/-- LDX, opcode AE (R172). -/
def execLdxAbs (b1 b2 : Byte) (s : State) : Result := run (readVia (eaAbs b1 b2) Cpu.loadX s)

/-- LDX, opcode B6 (R172). -/
def execLdxZpy (b1 : Byte) (s : State) : Result := run (readVia (eaZpy b1) Cpu.loadX s)

/-- LDX, opcode BE (R172). -/
def execLdxAby (b1 b2 : Byte) (s : State) : Result := run (readVia (eaAbyRead b1 b2) Cpu.loadX s)

/-- LDY, opcode A0 (R173). -/
def execLdyImm (b1 : Byte) (s : State) : Result := run (immediate Cpu.loadY b1 s)

/-- LDY, opcode A4 (R173). -/
def execLdyZp (b1 : Byte) (s : State) : Result := run (readVia (eaZp b1) Cpu.loadY s)

/-- LDY, opcode AC (R173). -/
def execLdyAbs (b1 b2 : Byte) (s : State) : Result := run (readVia (eaAbs b1 b2) Cpu.loadY s)

/-- LDY, opcode B4 (R173). -/
def execLdyZpx (b1 : Byte) (s : State) : Result := run (readVia (eaZpx b1) Cpu.loadY s)

/-- LDY, opcode BC (R173). -/
def execLdyAbx (b1 b2 : Byte) (s : State) : Result := run (readVia (eaAbxRead b1 b2) Cpu.loadY s)

/-- STA, opcode 81 (R174). -/
def execStaIzx (b1 : Byte) (s : State) : Result := run (storeVia (eaIzx b1) Cpu.a s)

/-- STA, opcode 85 (R174). -/
def execStaZp (b1 : Byte) (s : State) : Result := run (storeVia (eaZp b1) Cpu.a s)

/-- STA, opcode 8D (R174). -/
def execStaAbs (b1 b2 : Byte) (s : State) : Result := run (storeVia (eaAbs b1 b2) Cpu.a s)

/-- STA, opcode 91 (R174). -/
def execStaIzy (b1 : Byte) (s : State) : Result := run (storeVia (eaIzyFixed b1) Cpu.a s)

/-- STA, opcode 95 (R174). -/
def execStaZpx (b1 : Byte) (s : State) : Result := run (storeVia (eaZpx b1) Cpu.a s)

/-- STA, opcode 99 (R174). -/
def execStaAby (b1 b2 : Byte) (s : State) : Result := run (storeVia (eaAbyFixed b1 b2) Cpu.a s)

/-- STA, opcode 9D (R174). -/
def execStaAbx (b1 b2 : Byte) (s : State) : Result := run (storeVia (eaAbxFixed b1 b2) Cpu.a s)

/-- STX, opcode 86 (R175). -/
def execStxZp (b1 : Byte) (s : State) : Result := run (storeVia (eaZp b1) Cpu.x s)

/-- STX, opcode 8E (R175). -/
def execStxAbs (b1 b2 : Byte) (s : State) : Result := run (storeVia (eaAbs b1 b2) Cpu.x s)

/-- STX, opcode 96 (R175). -/
def execStxZpy (b1 : Byte) (s : State) : Result := run (storeVia (eaZpy b1) Cpu.x s)

/-- STY, opcode 84 (R176). -/
def execStyZp (b1 : Byte) (s : State) : Result := run (storeVia (eaZp b1) Cpu.y s)

/-- STY, opcode 8C (R176). -/
def execStyAbs (b1 b2 : Byte) (s : State) : Result := run (storeVia (eaAbs b1 b2) Cpu.y s)

/-- STY, opcode 94 (R176). -/
def execStyZpx (b1 : Byte) (s : State) : Result := run (storeVia (eaZpx b1) Cpu.y s)

/-- TAX, opcode AA (R177). -/
def execTax (s : State) : Result := run (implied Cpu.tax s)

/-- TAY, opcode A8 (R178). -/
def execTay (s : State) : Result := run (implied Cpu.tay s)

/-- TXA, opcode 8A (R179). -/
def execTxa (s : State) : Result := run (implied Cpu.txa s)

/-- TYA, opcode 98 (R180). -/
def execTya (s : State) : Result := run (implied Cpu.tya s)

/-- TSX, opcode BA (R181). -/
def execTsx (s : State) : Result := run (implied Cpu.tsx s)

/-- TXS, opcode 9A (R182). -/
def execTxs (s : State) : Result := run (implied Cpu.txs s)

end Sys2Proof.Machine
end

