-- ==== Sys2Proof/Machine/Arith.lean ====
section
/-! DEFINITION. Arithmetic, logic and compare (R200 to R215). -/

namespace Sys2Proof.Machine

/-- `A <- A and M; setNZ(A)` (R207). -/
def Cpu.andA (m : Byte) (k : Cpu) : Cpu := k.loadA (k.a &&& m)

/-- `A <- A or M; setNZ(A)` (R208). -/
def Cpu.oraA (m : Byte) (k : Cpu) : Cpu := k.loadA (k.a ||| m)

/-- `A <- A xor M; setNZ(A)` (R209). -/
def Cpu.eorA (m : Byte) (k : Cpu) : Cpu := k.loadA (k.a ^^^ m)

/-- `compare(A, M)` (R211). -/
def Cpu.cmpA (m : Byte) (k : Cpu) : Cpu := k.compare k.a m

/-- `compare(X, M)` (R212). -/
def Cpu.cmpX (m : Byte) (k : Cpu) : Cpu := k.compare k.x m

/-- `compare(Y, M)` (R213). -/
def Cpu.cmpY (m : Byte) (k : Cpu) : Cpu := k.compare k.y m

/-- ADC, opcode 61 (R201). -/
def execAdcIzx (b1 : Byte) (s : State) : Result := run (readVia (eaIzx b1) Cpu.adc s)

/-- ADC, opcode 65 (R201). -/
def execAdcZp (b1 : Byte) (s : State) : Result := run (readVia (eaZp b1) Cpu.adc s)

/-- ADC, opcode 69 (R201). -/
def execAdcImm (b1 : Byte) (s : State) : Result := run (immediate Cpu.adc b1 s)

/-- ADC, opcode 6D (R201). -/
def execAdcAbs (b1 b2 : Byte) (s : State) : Result := run (readVia (eaAbs b1 b2) Cpu.adc s)

/-- ADC, opcode 71 (R201). -/
def execAdcIzy (b1 : Byte) (s : State) : Result := run (readVia (eaIzyRead b1) Cpu.adc s)

/-- ADC, opcode 75 (R201). -/
def execAdcZpx (b1 : Byte) (s : State) : Result := run (readVia (eaZpx b1) Cpu.adc s)

/-- ADC, opcode 79 (R201). -/
def execAdcAby (b1 b2 : Byte) (s : State) : Result := run (readVia (eaAbyRead b1 b2) Cpu.adc s)

/-- ADC, opcode 7D (R201). -/
def execAdcAbx (b1 b2 : Byte) (s : State) : Result := run (readVia (eaAbxRead b1 b2) Cpu.adc s)

/-- SBC, opcode E1 (R204). -/
def execSbcIzx (b1 : Byte) (s : State) : Result := run (readVia (eaIzx b1) Cpu.sbc s)

/-- SBC, opcode E5 (R204). -/
def execSbcZp (b1 : Byte) (s : State) : Result := run (readVia (eaZp b1) Cpu.sbc s)

/-- SBC, opcode E9 (R204). -/
def execSbcImm (b1 : Byte) (s : State) : Result := run (immediate Cpu.sbc b1 s)

/-- SBC, opcode ED (R204). -/
def execSbcAbs (b1 b2 : Byte) (s : State) : Result := run (readVia (eaAbs b1 b2) Cpu.sbc s)

/-- SBC, opcode F1 (R204). -/
def execSbcIzy (b1 : Byte) (s : State) : Result := run (readVia (eaIzyRead b1) Cpu.sbc s)

/-- SBC, opcode F5 (R204). -/
def execSbcZpx (b1 : Byte) (s : State) : Result := run (readVia (eaZpx b1) Cpu.sbc s)

/-- SBC, opcode F9 (R204). -/
def execSbcAby (b1 b2 : Byte) (s : State) : Result := run (readVia (eaAbyRead b1 b2) Cpu.sbc s)

/-- SBC, opcode FD (R204). -/
def execSbcAbx (b1 b2 : Byte) (s : State) : Result := run (readVia (eaAbxRead b1 b2) Cpu.sbc s)

/-- AND, opcode 21 (R207). -/
def execAndIzx (b1 : Byte) (s : State) : Result := run (readVia (eaIzx b1) Cpu.andA s)

/-- AND, opcode 25 (R207). -/
def execAndZp (b1 : Byte) (s : State) : Result := run (readVia (eaZp b1) Cpu.andA s)

/-- AND, opcode 29 (R207). -/
def execAndImm (b1 : Byte) (s : State) : Result := run (immediate Cpu.andA b1 s)

/-- AND, opcode 2D (R207). -/
def execAndAbs (b1 b2 : Byte) (s : State) : Result := run (readVia (eaAbs b1 b2) Cpu.andA s)

/-- AND, opcode 31 (R207). -/
def execAndIzy (b1 : Byte) (s : State) : Result := run (readVia (eaIzyRead b1) Cpu.andA s)

/-- AND, opcode 35 (R207). -/
def execAndZpx (b1 : Byte) (s : State) : Result := run (readVia (eaZpx b1) Cpu.andA s)

/-- AND, opcode 39 (R207). -/
def execAndAby (b1 b2 : Byte) (s : State) : Result := run (readVia (eaAbyRead b1 b2) Cpu.andA s)

/-- AND, opcode 3D (R207). -/
def execAndAbx (b1 b2 : Byte) (s : State) : Result := run (readVia (eaAbxRead b1 b2) Cpu.andA s)

/-- ORA, opcode 01 (R208). -/
def execOraIzx (b1 : Byte) (s : State) : Result := run (readVia (eaIzx b1) Cpu.oraA s)

/-- ORA, opcode 05 (R208). -/
def execOraZp (b1 : Byte) (s : State) : Result := run (readVia (eaZp b1) Cpu.oraA s)

/-- ORA, opcode 09 (R208). -/
def execOraImm (b1 : Byte) (s : State) : Result := run (immediate Cpu.oraA b1 s)

/-- ORA, opcode 0D (R208). -/
def execOraAbs (b1 b2 : Byte) (s : State) : Result := run (readVia (eaAbs b1 b2) Cpu.oraA s)

/-- ORA, opcode 11 (R208). -/
def execOraIzy (b1 : Byte) (s : State) : Result := run (readVia (eaIzyRead b1) Cpu.oraA s)

/-- ORA, opcode 15 (R208). -/
def execOraZpx (b1 : Byte) (s : State) : Result := run (readVia (eaZpx b1) Cpu.oraA s)

/-- ORA, opcode 19 (R208). -/
def execOraAby (b1 b2 : Byte) (s : State) : Result := run (readVia (eaAbyRead b1 b2) Cpu.oraA s)

/-- ORA, opcode 1D (R208). -/
def execOraAbx (b1 b2 : Byte) (s : State) : Result := run (readVia (eaAbxRead b1 b2) Cpu.oraA s)

/-- EOR, opcode 41 (R209). -/
def execEorIzx (b1 : Byte) (s : State) : Result := run (readVia (eaIzx b1) Cpu.eorA s)

/-- EOR, opcode 45 (R209). -/
def execEorZp (b1 : Byte) (s : State) : Result := run (readVia (eaZp b1) Cpu.eorA s)

/-- EOR, opcode 49 (R209). -/
def execEorImm (b1 : Byte) (s : State) : Result := run (immediate Cpu.eorA b1 s)

/-- EOR, opcode 4D (R209). -/
def execEorAbs (b1 b2 : Byte) (s : State) : Result := run (readVia (eaAbs b1 b2) Cpu.eorA s)

/-- EOR, opcode 51 (R209). -/
def execEorIzy (b1 : Byte) (s : State) : Result := run (readVia (eaIzyRead b1) Cpu.eorA s)

/-- EOR, opcode 55 (R209). -/
def execEorZpx (b1 : Byte) (s : State) : Result := run (readVia (eaZpx b1) Cpu.eorA s)

/-- EOR, opcode 59 (R209). -/
def execEorAby (b1 b2 : Byte) (s : State) : Result := run (readVia (eaAbyRead b1 b2) Cpu.eorA s)

/-- EOR, opcode 5D (R209). -/
def execEorAbx (b1 b2 : Byte) (s : State) : Result := run (readVia (eaAbxRead b1 b2) Cpu.eorA s)

/-- CMP, opcode C1 (R211). -/
def execCmpIzx (b1 : Byte) (s : State) : Result := run (readVia (eaIzx b1) Cpu.cmpA s)

/-- CMP, opcode C5 (R211). -/
def execCmpZp (b1 : Byte) (s : State) : Result := run (readVia (eaZp b1) Cpu.cmpA s)

/-- CMP, opcode C9 (R211). -/
def execCmpImm (b1 : Byte) (s : State) : Result := run (immediate Cpu.cmpA b1 s)

/-- CMP, opcode CD (R211). -/
def execCmpAbs (b1 b2 : Byte) (s : State) : Result := run (readVia (eaAbs b1 b2) Cpu.cmpA s)

/-- CMP, opcode D1 (R211). -/
def execCmpIzy (b1 : Byte) (s : State) : Result := run (readVia (eaIzyRead b1) Cpu.cmpA s)

/-- CMP, opcode D5 (R211). -/
def execCmpZpx (b1 : Byte) (s : State) : Result := run (readVia (eaZpx b1) Cpu.cmpA s)

/-- CMP, opcode D9 (R211). -/
def execCmpAby (b1 b2 : Byte) (s : State) : Result := run (readVia (eaAbyRead b1 b2) Cpu.cmpA s)

/-- CMP, opcode DD (R211). -/
def execCmpAbx (b1 b2 : Byte) (s : State) : Result := run (readVia (eaAbxRead b1 b2) Cpu.cmpA s)

/-- CPX, opcode E0 (R212). -/
def execCpxImm (b1 : Byte) (s : State) : Result := run (immediate Cpu.cmpX b1 s)

/-- CPX, opcode E4 (R212). -/
def execCpxZp (b1 : Byte) (s : State) : Result := run (readVia (eaZp b1) Cpu.cmpX s)

/-- CPX, opcode EC (R212). -/
def execCpxAbs (b1 b2 : Byte) (s : State) : Result := run (readVia (eaAbs b1 b2) Cpu.cmpX s)

/-- CPY, opcode C0 (R213). -/
def execCpyImm (b1 : Byte) (s : State) : Result := run (immediate Cpu.cmpY b1 s)

/-- CPY, opcode C4 (R213). -/
def execCpyZp (b1 : Byte) (s : State) : Result := run (readVia (eaZp b1) Cpu.cmpY s)

/-- CPY, opcode CC (R213). -/
def execCpyAbs (b1 b2 : Byte) (s : State) : Result := run (readVia (eaAbs b1 b2) Cpu.cmpY s)

/-- BIT, opcode 24 (R214). -/
def execBitZp (b1 : Byte) (s : State) : Result := run (readVia (eaZp b1) Cpu.bitTest s)

/-- BIT, opcode 2C (R214). -/
def execBitAbs (b1 b2 : Byte) (s : State) : Result := run (readVia (eaAbs b1 b2) Cpu.bitTest s)

end Sys2Proof.Machine
end

