-- ==== Sys2Proof/Machine/Shift.lean ====
section
/-! DEFINITION. Shifts, rotates, increments and decrements (R230 to R240). -/

namespace Sys2Proof.Machine

/-- `X <- X + 1; setNZ(X)` (R237). -/
def Cpu.inx (k : Cpu) : Cpu := k.loadX (k.x + 1)

/-- `Y <- Y + 1; setNZ(Y)` (R238). -/
def Cpu.iny (k : Cpu) : Cpu := k.loadY (k.y + 1)

/-- `X <- X - 1; setNZ(X)` (R239). -/
def Cpu.dex (k : Cpu) : Cpu := k.loadX (k.x - 1)

/-- `Y <- Y - 1; setNZ(Y)` (R240). -/
def Cpu.dey (k : Cpu) : Cpu := k.loadY (k.y - 1)

/-- ASL, opcode 06 (R231). -/
def execAslZp (b1 : Byte) (s : State) : Result := run (rmwVia (eaZp b1) aslOp Cpu.setNZ s)

/-- ASL, opcode 0A (R231). -/
def execAslAcc (s : State) : Result := run (implied (Cpu.onA aslOp) s)

/-- ASL, opcode 0E (R231). -/
def execAslAbs (b1 b2 : Byte) (s : State) : Result := run (rmwVia (eaAbs b1 b2) aslOp Cpu.setNZ s)

/-- ASL, opcode 16 (R231). -/
def execAslZpx (b1 : Byte) (s : State) : Result := run (rmwVia (eaZpx b1) aslOp Cpu.setNZ s)

/-- ASL, opcode 1E (R231). -/
def execAslAbx (b1 b2 : Byte) (s : State) : Result := run (rmwVia (eaAbxFixed b1 b2) aslOp Cpu.setNZ s)

/-- LSR, opcode 46 (R232). -/
def execLsrZp (b1 : Byte) (s : State) : Result := run (rmwVia (eaZp b1) lsrOp Cpu.setNZ s)

/-- LSR, opcode 4A (R232). -/
def execLsrAcc (s : State) : Result := run (implied (Cpu.onA lsrOp) s)

/-- LSR, opcode 4E (R232). -/
def execLsrAbs (b1 b2 : Byte) (s : State) : Result := run (rmwVia (eaAbs b1 b2) lsrOp Cpu.setNZ s)

/-- LSR, opcode 56 (R232). -/
def execLsrZpx (b1 : Byte) (s : State) : Result := run (rmwVia (eaZpx b1) lsrOp Cpu.setNZ s)

/-- LSR, opcode 5E (R232). -/
def execLsrAbx (b1 b2 : Byte) (s : State) : Result := run (rmwVia (eaAbxFixed b1 b2) lsrOp Cpu.setNZ s)

/-- ROL, opcode 26 (R233). -/
def execRolZp (b1 : Byte) (s : State) : Result := run (rmwVia (eaZp b1) rolOp Cpu.setNZ s)

/-- ROL, opcode 2A (R233). -/
def execRolAcc (s : State) : Result := run (implied (Cpu.onA rolOp) s)

/-- ROL, opcode 2E (R233). -/
def execRolAbs (b1 b2 : Byte) (s : State) : Result := run (rmwVia (eaAbs b1 b2) rolOp Cpu.setNZ s)

/-- ROL, opcode 36 (R233). -/
def execRolZpx (b1 : Byte) (s : State) : Result := run (rmwVia (eaZpx b1) rolOp Cpu.setNZ s)

/-- ROL, opcode 3E (R233). -/
def execRolAbx (b1 b2 : Byte) (s : State) : Result := run (rmwVia (eaAbxFixed b1 b2) rolOp Cpu.setNZ s)

/-- ROR, opcode 66 (R234). -/
def execRorZp (b1 : Byte) (s : State) : Result := run (rmwVia (eaZp b1) rorOp Cpu.setNZ s)

/-- ROR, opcode 6A (R234). -/
def execRorAcc (s : State) : Result := run (implied (Cpu.onA rorOp) s)

/-- ROR, opcode 6E (R234). -/
def execRorAbs (b1 b2 : Byte) (s : State) : Result := run (rmwVia (eaAbs b1 b2) rorOp Cpu.setNZ s)

/-- ROR, opcode 76 (R234). -/
def execRorZpx (b1 : Byte) (s : State) : Result := run (rmwVia (eaZpx b1) rorOp Cpu.setNZ s)

/-- ROR, opcode 7E (R234). -/
def execRorAbx (b1 b2 : Byte) (s : State) : Result := run (rmwVia (eaAbxFixed b1 b2) rorOp Cpu.setNZ s)

/-- INC, opcode E6 (R235). -/
def execIncZp (b1 : Byte) (s : State) : Result := run (rmwVia (eaZp b1) incOp Cpu.setNZ s)

/-- INC, opcode EE (R235). -/
def execIncAbs (b1 b2 : Byte) (s : State) : Result := run (rmwVia (eaAbs b1 b2) incOp Cpu.setNZ s)

/-- INC, opcode F6 (R235). -/
def execIncZpx (b1 : Byte) (s : State) : Result := run (rmwVia (eaZpx b1) incOp Cpu.setNZ s)

/-- INC, opcode FE (R235). -/
def execIncAbx (b1 b2 : Byte) (s : State) : Result := run (rmwVia (eaAbxFixed b1 b2) incOp Cpu.setNZ s)

/-- DEC, opcode C6 (R236). -/
def execDecZp (b1 : Byte) (s : State) : Result := run (rmwVia (eaZp b1) decOp Cpu.setNZ s)

/-- DEC, opcode CE (R236). -/
def execDecAbs (b1 b2 : Byte) (s : State) : Result := run (rmwVia (eaAbs b1 b2) decOp Cpu.setNZ s)

/-- DEC, opcode D6 (R236). -/
def execDecZpx (b1 : Byte) (s : State) : Result := run (rmwVia (eaZpx b1) decOp Cpu.setNZ s)

/-- DEC, opcode DE (R236). -/
def execDecAbx (b1 b2 : Byte) (s : State) : Result := run (rmwVia (eaAbxFixed b1 b2) decOp Cpu.setNZ s)

/-- INX, opcode E8 (R237). -/
def execInx (s : State) : Result := run (implied Cpu.inx s)

/-- INY, opcode C8 (R238). -/
def execIny (s : State) : Result := run (implied Cpu.iny s)

/-- DEX, opcode CA (R239). -/
def execDex (s : State) : Result := run (implied Cpu.dex s)

/-- DEY, opcode 88 (R240). -/
def execDey (s : State) : Result := run (implied Cpu.dey s)

end Sys2Proof.Machine
end

