-- ==== Sys2Proof/Machine/Control.lean ====
section
/-! DEFINITION. Jumps, subroutines, the trap and its return, branches, stack and flag instructions (R260 to R285). -/

namespace Sys2Proof.Machine

/-- `C <- b` (R279, R280). -/
def Cpu.putC (b : Bool) (k : Cpu) : Cpu := { k with c := b }

/-- `I <- b` (R281, R282). -/
def Cpu.putI (b : Bool) (k : Cpu) : Cpu := { k with i := b }

/-- `V <- 0` (R283). -/
def Cpu.clearV (k : Cpu) : Cpu := { k with v := false }

/-- `D <- b` (R284, R285). -/
def Cpu.putD (b : Bool) (k : Cpu) : Cpu := { k with d := b }

/-- JMP absolute: both operand bytes have been read (R260, R364). -/
def jumpTo (a : Addr) (s : State) : Except Stop State := .ok (s.mapCpu (Cpu.setPC a))

/-- JMP indirect: the pointer's low byte is incremented without carry (R146, R260, R365). -/
def jumpIndirect (b1 b2 : Byte) (s : State) : Except Stop State := loadPC (b2 ++ b1) (b2 ++ (b1 + 1)) s

/-- JSR (R261, R367): on entry the PC stands at the third byte, which is read after the pushes. -/
def jumpSubroutine (lo : Byte) (s : State) : Except Stop State := do
  let s ← dummyRead (stackAddr s.cpu.sp) s
  let s ← push (s.cpu.pc.extractLsb' 8 8) s
  let s ← push (s.cpu.pc.extractLsb' 0 8) s
  let h ← cycleRead s.cpu.pc s
  pure (h.2.mapCpu (Cpu.setPC (h.1 ++ lo)))

/-- RTS (R262, R368). -/
def returnSubroutine (s : State) : Except Stop State := do
  let s ← dummyRead s.cpu.pc s
  let s ← dummyRead (stackAddr s.cpu.sp) s
  let l ← pull s
  let h ← pull l.2
  let s := h.2.mapCpu (Cpu.setPC (h.1 ++ l.1))
  let s ← dummyRead s.cpu.pc s
  pure (s.mapCpu Cpu.incPC)

/-- PHA and PHP (R275, R276, R371). -/
def pushRegister (val : Cpu → Byte) (s : State) : Except Stop State := do
  let s ← dummyRead s.cpu.pc s
  push (val s.cpu) s

/-- PLA and PLP (R277, R278, R372). -/
def pullInto (op : Byte → Cpu → Cpu) (s : State) : Except Stop State := do
  let s ← dummyRead s.cpu.pc s
  let s ← dummyRead (stackAddr s.cpu.sp) s
  let x ← pull s
  pure (x.2.mapCpu (op x.1))

/-- JMP, opcode 4C (R260). -/
def execJmpAbs (b1 b2 : Byte) (s : State) : Result := run (jumpTo (b2 ++ b1) s)

/-- JMP, opcode 6C (R260). -/
def execJmpInd (b1 b2 : Byte) (s : State) : Result := run (jumpIndirect b1 b2 s)

/-- JSR, opcode 20 (R261). -/
def execJsrAbs (b1 _b2 : Byte) (s : State) : Result := run (jumpSubroutine b1 s)

/-- RTS, opcode 60 (R262). -/
def execRts (s : State) : Result := run (returnSubroutine s)

/-- RTI, opcode 40 (R263). -/
def execRti (s : State) : Result := run (returnFromTrap s)

/-- BRK, opcode 00 (R264). -/
def execBrk (s : State) : Result := run (takeBreak s)

/-- BPL, opcode 10 (R266). -/
def execBpl (b1 : Byte) (s : State) : Result := run (branch (fun k => !k.n) b1 s)

/-- BMI, opcode 30 (R267). -/
def execBmi (b1 : Byte) (s : State) : Result := run (branch (fun k => k.n) b1 s)

/-- BVC, opcode 50 (R268). -/
def execBvc (b1 : Byte) (s : State) : Result := run (branch (fun k => !k.v) b1 s)

/-- BVS, opcode 70 (R269). -/
def execBvs (b1 : Byte) (s : State) : Result := run (branch (fun k => k.v) b1 s)

/-- BCC, opcode 90 (R270). -/
def execBcc (b1 : Byte) (s : State) : Result := run (branch (fun k => !k.c) b1 s)

/-- BCS, opcode B0 (R271). -/
def execBcs (b1 : Byte) (s : State) : Result := run (branch (fun k => k.c) b1 s)

/-- BNE, opcode D0 (R272). -/
def execBne (b1 : Byte) (s : State) : Result := run (branch (fun k => !k.z) b1 s)

/-- BEQ, opcode F0 (R273). -/
def execBeq (b1 : Byte) (s : State) : Result := run (branch (fun k => k.z) b1 s)

/-- NOP, opcode EA (R274). -/
def execNop (s : State) : Result := run (implied id s)

/-- PHA, opcode 48 (R275). -/
def execPha (s : State) : Result := run (pushRegister Cpu.a s)

/-- PHP, opcode 08 (R276). -/
def execPhp (s : State) : Result := run (pushRegister Cpu.status s)

/-- PLA, opcode 68 (R277). -/
def execPla (s : State) : Result := run (pullInto Cpu.loadA s)

/-- PLP, opcode 28 (R278). -/
def execPlp (s : State) : Result := run (pullInto Cpu.withStatus s)

/-- CLC, opcode 18 (R279). -/
def execClc (s : State) : Result := run (implied (Cpu.putC false) s)

/-- SEC, opcode 38 (R280). -/
def execSec (s : State) : Result := run (implied (Cpu.putC true) s)

/-- CLI, opcode 58 (R281). -/
def execCli (s : State) : Result := run (implied (Cpu.putI false) s)

/-- SEI, opcode 78 (R282). -/
def execSei (s : State) : Result := run (implied (Cpu.putI true) s)

/-- CLV, opcode B8 (R283). -/
def execClv (s : State) : Result := run (implied Cpu.clearV s)

/-- CLD, opcode D8 (R284). -/
def execCld (s : State) : Result := run (implied (Cpu.putD false) s)

/-- SED, opcode F8 (R285). -/
def execSed (s : State) : Result := run (implied (Cpu.putD true) s)

end Sys2Proof.Machine
end

