-- ==== Sys2Proof/Machine/Undoc.lean ====
section
/-! DEFINITION. The 105 undocumented opcodes (R310 to R347). -/

namespace Sys2Proof.Machine

/-- `A and X` (R316). -/
def Cpu.ax (k : Cpu) : Byte := k.a &&& k.x

/-- LAX (R317). -/
def Cpu.loadAX (m : Byte) (k : Cpu) : Cpu := { (k.loadA m) with x := m }

/-- ANC (R320). -/
def Cpu.anc (m : Byte) (k : Cpu) : Cpu := { (k.loadA (k.a &&& m)) with c := (k.a &&& m).msb }

/-- ALR (R321). -/
def Cpu.alr (m : Byte) (k : Cpu) : Cpu := { (k.loadA ((k.a &&& m) >>> 1)) with c := (k.a &&& m).getLsbD 0 }

/-- ARR with `D = 0` (R322). -/
def Cpu.arr (m : Byte) (k : Cpu) : Cpu :=
  let r := (rorOp (k.a &&& m) k.c).1
  { (k.loadA r) with c := r.getLsbD 6, v := r.getLsbD 6 ^^ r.getLsbD 5 }

/-- ARR: with `D = 1` it is refused (R322). -/
def arr (m : Byte) (s : State) : Except Stop State :=
  if s.cpu.d then .error (.refused .arrDecimal) else immediate Cpu.arr m s

/-- SBX (R323). -/
def Cpu.sbx (m : Byte) (k : Cpu) : Cpu := { (k.compare k.ax m) with x := k.ax - m }

/-- LAS (R335). -/
def Cpu.las (m : Byte) (k : Cpu) : Cpu :=
  let r := m &&& k.sp
  { (k.setNZ r) with a := r, x := r, sp := r }

/-- JAM (R341, R375). -/
def Cpu.jam (k : Cpu) : Cpu := { k with jammed := true }

/-- SLO, opcode 03 (R312). -/
def execSloIzx (b1 : Byte) (s : State) : Result := run (undoc (rmwVia (eaIzx b1) aslOp Cpu.oraA) s)

/-- SLO, opcode 07 (R312). -/
def execSloZp (b1 : Byte) (s : State) : Result := run (undoc (rmwVia (eaZp b1) aslOp Cpu.oraA) s)

/-- SLO, opcode 0F (R312). -/
def execSloAbs (b1 b2 : Byte) (s : State) : Result := run (undoc (rmwVia (eaAbs b1 b2) aslOp Cpu.oraA) s)

/-- SLO, opcode 13 (R312). -/
def execSloIzy (b1 : Byte) (s : State) : Result := run (undoc (rmwVia (eaIzyFixed b1) aslOp Cpu.oraA) s)

/-- SLO, opcode 17 (R312). -/
def execSloZpx (b1 : Byte) (s : State) : Result := run (undoc (rmwVia (eaZpx b1) aslOp Cpu.oraA) s)

/-- SLO, opcode 1B (R312). -/
def execSloAby (b1 b2 : Byte) (s : State) : Result := run (undoc (rmwVia (eaAbyFixed b1 b2) aslOp Cpu.oraA) s)

/-- SLO, opcode 1F (R312). -/
def execSloAbx (b1 b2 : Byte) (s : State) : Result := run (undoc (rmwVia (eaAbxFixed b1 b2) aslOp Cpu.oraA) s)

/-- RLA, opcode 23 (R313). -/
def execRlaIzx (b1 : Byte) (s : State) : Result := run (undoc (rmwVia (eaIzx b1) rolOp Cpu.andA) s)

/-- RLA, opcode 27 (R313). -/
def execRlaZp (b1 : Byte) (s : State) : Result := run (undoc (rmwVia (eaZp b1) rolOp Cpu.andA) s)

/-- RLA, opcode 2F (R313). -/
def execRlaAbs (b1 b2 : Byte) (s : State) : Result := run (undoc (rmwVia (eaAbs b1 b2) rolOp Cpu.andA) s)

/-- RLA, opcode 33 (R313). -/
def execRlaIzy (b1 : Byte) (s : State) : Result := run (undoc (rmwVia (eaIzyFixed b1) rolOp Cpu.andA) s)

/-- RLA, opcode 37 (R313). -/
def execRlaZpx (b1 : Byte) (s : State) : Result := run (undoc (rmwVia (eaZpx b1) rolOp Cpu.andA) s)

/-- RLA, opcode 3B (R313). -/
def execRlaAby (b1 b2 : Byte) (s : State) : Result := run (undoc (rmwVia (eaAbyFixed b1 b2) rolOp Cpu.andA) s)

/-- RLA, opcode 3F (R313). -/
def execRlaAbx (b1 b2 : Byte) (s : State) : Result := run (undoc (rmwVia (eaAbxFixed b1 b2) rolOp Cpu.andA) s)

/-- SRE, opcode 43 (R314). -/
def execSreIzx (b1 : Byte) (s : State) : Result := run (undoc (rmwVia (eaIzx b1) lsrOp Cpu.eorA) s)

/-- SRE, opcode 47 (R314). -/
def execSreZp (b1 : Byte) (s : State) : Result := run (undoc (rmwVia (eaZp b1) lsrOp Cpu.eorA) s)

/-- SRE, opcode 4F (R314). -/
def execSreAbs (b1 b2 : Byte) (s : State) : Result := run (undoc (rmwVia (eaAbs b1 b2) lsrOp Cpu.eorA) s)

/-- SRE, opcode 53 (R314). -/
def execSreIzy (b1 : Byte) (s : State) : Result := run (undoc (rmwVia (eaIzyFixed b1) lsrOp Cpu.eorA) s)

/-- SRE, opcode 57 (R314). -/
def execSreZpx (b1 : Byte) (s : State) : Result := run (undoc (rmwVia (eaZpx b1) lsrOp Cpu.eorA) s)

/-- SRE, opcode 5B (R314). -/
def execSreAby (b1 b2 : Byte) (s : State) : Result := run (undoc (rmwVia (eaAbyFixed b1 b2) lsrOp Cpu.eorA) s)

/-- SRE, opcode 5F (R314). -/
def execSreAbx (b1 b2 : Byte) (s : State) : Result := run (undoc (rmwVia (eaAbxFixed b1 b2) lsrOp Cpu.eorA) s)

/-- RRA, opcode 63 (R315). -/
def execRraIzx (b1 : Byte) (s : State) : Result := run (undoc (rmwVia (eaIzx b1) rorOp Cpu.adc) s)

/-- RRA, opcode 67 (R315). -/
def execRraZp (b1 : Byte) (s : State) : Result := run (undoc (rmwVia (eaZp b1) rorOp Cpu.adc) s)

/-- RRA, opcode 6F (R315). -/
def execRraAbs (b1 b2 : Byte) (s : State) : Result := run (undoc (rmwVia (eaAbs b1 b2) rorOp Cpu.adc) s)

/-- RRA, opcode 73 (R315). -/
def execRraIzy (b1 : Byte) (s : State) : Result := run (undoc (rmwVia (eaIzyFixed b1) rorOp Cpu.adc) s)

/-- RRA, opcode 77 (R315). -/
def execRraZpx (b1 : Byte) (s : State) : Result := run (undoc (rmwVia (eaZpx b1) rorOp Cpu.adc) s)

/-- RRA, opcode 7B (R315). -/
def execRraAby (b1 b2 : Byte) (s : State) : Result := run (undoc (rmwVia (eaAbyFixed b1 b2) rorOp Cpu.adc) s)

/-- RRA, opcode 7F (R315). -/
def execRraAbx (b1 b2 : Byte) (s : State) : Result := run (undoc (rmwVia (eaAbxFixed b1 b2) rorOp Cpu.adc) s)

/-- SAX, opcode 83 (R316). -/
def execSaxIzx (b1 : Byte) (s : State) : Result := run (undoc (storeVia (eaIzx b1) Cpu.ax) s)

/-- SAX, opcode 87 (R316). -/
def execSaxZp (b1 : Byte) (s : State) : Result := run (undoc (storeVia (eaZp b1) Cpu.ax) s)

/-- SAX, opcode 8F (R316). -/
def execSaxAbs (b1 b2 : Byte) (s : State) : Result := run (undoc (storeVia (eaAbs b1 b2) Cpu.ax) s)

/-- SAX, opcode 97 (R316). -/
def execSaxZpy (b1 : Byte) (s : State) : Result := run (undoc (storeVia (eaZpy b1) Cpu.ax) s)

/-- LAX, opcode A3 (R317). -/
def execLaxIzx (b1 : Byte) (s : State) : Result := run (undoc (readVia (eaIzx b1) Cpu.loadAX) s)

/-- LAX, opcode A7 (R317). -/
def execLaxZp (b1 : Byte) (s : State) : Result := run (undoc (readVia (eaZp b1) Cpu.loadAX) s)

/-- LAX, opcode AF (R317). -/
def execLaxAbs (b1 b2 : Byte) (s : State) : Result := run (undoc (readVia (eaAbs b1 b2) Cpu.loadAX) s)

/-- LAX, opcode B3 (R317). -/
def execLaxIzy (b1 : Byte) (s : State) : Result := run (undoc (readVia (eaIzyRead b1) Cpu.loadAX) s)

/-- LAX, opcode B7 (R317). -/
def execLaxZpy (b1 : Byte) (s : State) : Result := run (undoc (readVia (eaZpy b1) Cpu.loadAX) s)

/-- LAX, opcode BF (R317). -/
def execLaxAby (b1 b2 : Byte) (s : State) : Result := run (undoc (readVia (eaAbyRead b1 b2) Cpu.loadAX) s)

/-- DCP, opcode C3 (R318). -/
def execDcpIzx (b1 : Byte) (s : State) : Result := run (undoc (rmwVia (eaIzx b1) decOp Cpu.cmpA) s)

/-- DCP, opcode C7 (R318). -/
def execDcpZp (b1 : Byte) (s : State) : Result := run (undoc (rmwVia (eaZp b1) decOp Cpu.cmpA) s)

/-- DCP, opcode CF (R318). -/
def execDcpAbs (b1 b2 : Byte) (s : State) : Result := run (undoc (rmwVia (eaAbs b1 b2) decOp Cpu.cmpA) s)

/-- DCP, opcode D3 (R318). -/
def execDcpIzy (b1 : Byte) (s : State) : Result := run (undoc (rmwVia (eaIzyFixed b1) decOp Cpu.cmpA) s)

/-- DCP, opcode D7 (R318). -/
def execDcpZpx (b1 : Byte) (s : State) : Result := run (undoc (rmwVia (eaZpx b1) decOp Cpu.cmpA) s)

/-- DCP, opcode DB (R318). -/
def execDcpAby (b1 b2 : Byte) (s : State) : Result := run (undoc (rmwVia (eaAbyFixed b1 b2) decOp Cpu.cmpA) s)

/-- DCP, opcode DF (R318). -/
def execDcpAbx (b1 b2 : Byte) (s : State) : Result := run (undoc (rmwVia (eaAbxFixed b1 b2) decOp Cpu.cmpA) s)

/-- ISC, opcode E3 (R319). -/
def execIscIzx (b1 : Byte) (s : State) : Result := run (undoc (rmwVia (eaIzx b1) incOp Cpu.sbc) s)

/-- ISC, opcode E7 (R319). -/
def execIscZp (b1 : Byte) (s : State) : Result := run (undoc (rmwVia (eaZp b1) incOp Cpu.sbc) s)

/-- ISC, opcode EF (R319). -/
def execIscAbs (b1 b2 : Byte) (s : State) : Result := run (undoc (rmwVia (eaAbs b1 b2) incOp Cpu.sbc) s)

/-- ISC, opcode F3 (R319). -/
def execIscIzy (b1 : Byte) (s : State) : Result := run (undoc (rmwVia (eaIzyFixed b1) incOp Cpu.sbc) s)

/-- ISC, opcode F7 (R319). -/
def execIscZpx (b1 : Byte) (s : State) : Result := run (undoc (rmwVia (eaZpx b1) incOp Cpu.sbc) s)

/-- ISC, opcode FB (R319). -/
def execIscAby (b1 b2 : Byte) (s : State) : Result := run (undoc (rmwVia (eaAbyFixed b1 b2) incOp Cpu.sbc) s)

/-- ISC, opcode FF (R319). -/
def execIscAbx (b1 b2 : Byte) (s : State) : Result := run (undoc (rmwVia (eaAbxFixed b1 b2) incOp Cpu.sbc) s)

/-- ANC, opcode 0B (R320). -/
def execAncImm0B (b1 : Byte) (s : State) : Result := run (undoc (immediate Cpu.anc b1) s)

/-- ANC, opcode 2B (R320). -/
def execAncImm2B (b1 : Byte) (s : State) : Result := run (undoc (immediate Cpu.anc b1) s)

/-- ALR, opcode 4B (R321). -/
def execAlrImm (b1 : Byte) (s : State) : Result := run (undoc (immediate Cpu.alr b1) s)

/-- ARR, opcode 6B (R322). -/
def execArrImm (b1 : Byte) (s : State) : Result := run (undoc (arr b1) s)

/-- SBX, opcode CB (R323). -/
def execSbxImm (b1 : Byte) (s : State) : Result := run (undoc (immediate Cpu.sbx b1) s)

/-- SBC, opcode EB (R334). -/
def execSbcImmEB (b1 : Byte) (s : State) : Result := run (undoc (immediate Cpu.sbc b1) s)

/-- LAS, opcode BB (R335). -/
def execLasAby (b1 b2 : Byte) (s : State) : Result := run (undoc (readVia (eaAbyRead b1 b2) Cpu.las) s)

/-- NOP, opcode 04 (R336). -/
def execNopZp04 (b1 : Byte) (s : State) : Result := run (undoc (readVia (eaZp b1) (fun _ k => k)) s)

/-- NOP, opcode 0C (R336). -/
def execNopAbs (b1 b2 : Byte) (s : State) : Result := run (undoc (readVia (eaAbs b1 b2) (fun _ k => k)) s)

/-- NOP, opcode 14 (R336). -/
def execNopZpx14 (b1 : Byte) (s : State) : Result := run (undoc (readVia (eaZpx b1) (fun _ k => k)) s)

/-- NOP, opcode 1A (R336). -/
def execNop1A (s : State) : Result := run (undoc (implied id) s)

/-- NOP, opcode 1C (R336). -/
def execNopAbx1C (b1 b2 : Byte) (s : State) : Result := run (undoc (readVia (eaAbxRead b1 b2) (fun _ k => k)) s)

/-- NOP, opcode 34 (R336). -/
def execNopZpx34 (b1 : Byte) (s : State) : Result := run (undoc (readVia (eaZpx b1) (fun _ k => k)) s)

/-- NOP, opcode 3A (R336). -/
def execNop3A (s : State) : Result := run (undoc (implied id) s)

/-- NOP, opcode 3C (R336). -/
def execNopAbx3C (b1 b2 : Byte) (s : State) : Result := run (undoc (readVia (eaAbxRead b1 b2) (fun _ k => k)) s)

/-- NOP, opcode 44 (R336). -/
def execNopZp44 (b1 : Byte) (s : State) : Result := run (undoc (readVia (eaZp b1) (fun _ k => k)) s)

/-- NOP, opcode 54 (R336). -/
def execNopZpx54 (b1 : Byte) (s : State) : Result := run (undoc (readVia (eaZpx b1) (fun _ k => k)) s)

/-- NOP, opcode 5A (R336). -/
def execNop5A (s : State) : Result := run (undoc (implied id) s)

/-- NOP, opcode 5C (R336). -/
def execNopAbx5C (b1 b2 : Byte) (s : State) : Result := run (undoc (readVia (eaAbxRead b1 b2) (fun _ k => k)) s)

/-- NOP, opcode 64 (R336). -/
def execNopZp64 (b1 : Byte) (s : State) : Result := run (undoc (readVia (eaZp b1) (fun _ k => k)) s)

/-- NOP, opcode 74 (R336). -/
def execNopZpx74 (b1 : Byte) (s : State) : Result := run (undoc (readVia (eaZpx b1) (fun _ k => k)) s)

/-- NOP, opcode 7A (R336). -/
def execNop7A (s : State) : Result := run (undoc (implied id) s)

/-- NOP, opcode 7C (R336). -/
def execNopAbx7C (b1 b2 : Byte) (s : State) : Result := run (undoc (readVia (eaAbxRead b1 b2) (fun _ k => k)) s)

/-- NOP, opcode 80 (R336). -/
def execNopImm80 (b1 : Byte) (s : State) : Result := run (undoc (immediate (fun _ k => k) b1) s)

/-- NOP, opcode 82 (R336). -/
def execNopImm82 (b1 : Byte) (s : State) : Result := run (undoc (immediate (fun _ k => k) b1) s)

/-- NOP, opcode 89 (R336). -/
def execNopImm89 (b1 : Byte) (s : State) : Result := run (undoc (immediate (fun _ k => k) b1) s)

/-- NOP, opcode C2 (R336). -/
def execNopImmC2 (b1 : Byte) (s : State) : Result := run (undoc (immediate (fun _ k => k) b1) s)

/-- NOP, opcode D4 (R336). -/
def execNopZpxD4 (b1 : Byte) (s : State) : Result := run (undoc (readVia (eaZpx b1) (fun _ k => k)) s)

/-- NOP, opcode DA (R336). -/
def execNopDA (s : State) : Result := run (undoc (implied id) s)

/-- NOP, opcode DC (R336). -/
def execNopAbxDC (b1 b2 : Byte) (s : State) : Result := run (undoc (readVia (eaAbxRead b1 b2) (fun _ k => k)) s)

/-- NOP, opcode E2 (R336). -/
def execNopImmE2 (b1 : Byte) (s : State) : Result := run (undoc (immediate (fun _ k => k) b1) s)

/-- NOP, opcode F4 (R336). -/
def execNopZpxF4 (b1 : Byte) (s : State) : Result := run (undoc (readVia (eaZpx b1) (fun _ k => k)) s)

/-- NOP, opcode FA (R336). -/
def execNopFA (s : State) : Result := run (undoc (implied id) s)

/-- NOP, opcode FC (R336). -/
def execNopAbxFC (b1 b2 : Byte) (s : State) : Result := run (undoc (readVia (eaAbxRead b1 b2) (fun _ k => k)) s)

/-- JAM, opcode 02 (R341). -/
def execJam02 (s : State) : Result := run (undoc (fun s => .ok (s.mapCpu Cpu.jam)) s)

/-- JAM, opcode 12 (R341). -/
def execJam12 (s : State) : Result := run (undoc (fun s => .ok (s.mapCpu Cpu.jam)) s)

/-- JAM, opcode 22 (R341). -/
def execJam22 (s : State) : Result := run (undoc (fun s => .ok (s.mapCpu Cpu.jam)) s)

/-- JAM, opcode 32 (R341). -/
def execJam32 (s : State) : Result := run (undoc (fun s => .ok (s.mapCpu Cpu.jam)) s)

/-- JAM, opcode 42 (R341). -/
def execJam42 (s : State) : Result := run (undoc (fun s => .ok (s.mapCpu Cpu.jam)) s)

/-- JAM, opcode 52 (R341). -/
def execJam52 (s : State) : Result := run (undoc (fun s => .ok (s.mapCpu Cpu.jam)) s)

/-- JAM, opcode 62 (R341). -/
def execJam62 (s : State) : Result := run (undoc (fun s => .ok (s.mapCpu Cpu.jam)) s)

/-- JAM, opcode 72 (R341). -/
def execJam72 (s : State) : Result := run (undoc (fun s => .ok (s.mapCpu Cpu.jam)) s)

/-- JAM, opcode 92 (R341). -/
def execJam92 (s : State) : Result := run (undoc (fun s => .ok (s.mapCpu Cpu.jam)) s)

/-- JAM, opcode B2 (R341). -/
def execJamB2 (s : State) : Result := run (undoc (fun s => .ok (s.mapCpu Cpu.jam)) s)

/-- JAM, opcode D2 (R341). -/
def execJamD2 (s : State) : Result := run (undoc (fun s => .ok (s.mapCpu Cpu.jam)) s)

/-- JAM, opcode F2 (R341). -/
def execJamF2 (s : State) : Result := run (undoc (fun s => .ok (s.mapCpu Cpu.jam)) s)

/-- ANE, opcode 8B (R342, R340): refused. -/
def execAneImm (_b1 : Byte) (_s : State) : Result := .refused .unstableOpcode

/-- LXA, opcode AB (R343, R340): refused. -/
def execLxaImm (_b1 : Byte) (_s : State) : Result := .refused .unstableOpcode

/-- SHA, opcode 93 (R344, R340): refused. -/
def execShaIzy (_b1 : Byte) (_s : State) : Result := .refused .unstableOpcode

/-- SHA, opcode 9F (R344, R340): refused. -/
def execShaAby (_b1 _b2 : Byte) (_s : State) : Result := .refused .unstableOpcode

/-- SHY, opcode 9C (R345, R340): refused. -/
def execShyAbx (_b1 _b2 : Byte) (_s : State) : Result := .refused .unstableOpcode

/-- SHX, opcode 9E (R346, R340): refused. -/
def execShxAby (_b1 _b2 : Byte) (_s : State) : Result := .refused .unstableOpcode

/-- TAS, opcode 9B (R347, R340): refused. -/
def execTasAby (_b1 _b2 : Byte) (_s : State) : Result := .refused .unstableOpcode

end Sys2Proof.Machine
end

