-- ==== Sys2Proof/Machine/Dispatch.lean ====
section
/-! DEFINITION. The dispatch: one meaning for each constructor of `Instr`. -/

namespace Sys2Proof.Machine

/-- The meaning of an instruction, on a state in which its bytes have been fetched: for the 6507 the PC stands past the
bytes fetched before its execution, for Thumb `R[15]` reads `X + 4`. -/
def exec (i : Instr) (s : State) : Host.Outcome State Fault Refusal :=
  match i with
  | .oraIzx b1 => Sys2Proof.Machine.execOraIzx b1 s
  | .sloIzx b1 => Sys2Proof.Machine.execSloIzx b1 s
  | .nopZp04 b1 => Sys2Proof.Machine.execNopZp04 b1 s
  | .oraZp b1 => Sys2Proof.Machine.execOraZp b1 s
  | .aslZp b1 => Sys2Proof.Machine.execAslZp b1 s
  | .sloZp b1 => Sys2Proof.Machine.execSloZp b1 s
  | .oraImm b1 => Sys2Proof.Machine.execOraImm b1 s
  | .ancImm0B b1 => Sys2Proof.Machine.execAncImm0B b1 s
  | .nopAbs b1 b2 => Sys2Proof.Machine.execNopAbs b1 b2 s
  | .oraAbs b1 b2 => Sys2Proof.Machine.execOraAbs b1 b2 s
  | .aslAbs b1 b2 => Sys2Proof.Machine.execAslAbs b1 b2 s
  | .sloAbs b1 b2 => Sys2Proof.Machine.execSloAbs b1 b2 s
  | .bpl b1 => Sys2Proof.Machine.execBpl b1 s
  | .oraIzy b1 => Sys2Proof.Machine.execOraIzy b1 s
  | .sloIzy b1 => Sys2Proof.Machine.execSloIzy b1 s
  | .nopZpx14 b1 => Sys2Proof.Machine.execNopZpx14 b1 s
  | .oraZpx b1 => Sys2Proof.Machine.execOraZpx b1 s
  | .aslZpx b1 => Sys2Proof.Machine.execAslZpx b1 s
  | .sloZpx b1 => Sys2Proof.Machine.execSloZpx b1 s
  | .oraAby b1 b2 => Sys2Proof.Machine.execOraAby b1 b2 s
  | .sloAby b1 b2 => Sys2Proof.Machine.execSloAby b1 b2 s
  | .nopAbx1C b1 b2 => Sys2Proof.Machine.execNopAbx1C b1 b2 s
  | .oraAbx b1 b2 => Sys2Proof.Machine.execOraAbx b1 b2 s
  | .aslAbx b1 b2 => Sys2Proof.Machine.execAslAbx b1 b2 s
  | .sloAbx b1 b2 => Sys2Proof.Machine.execSloAbx b1 b2 s
  | .jsrAbs b1 b2 => Sys2Proof.Machine.execJsrAbs b1 b2 s
  | .andIzx b1 => Sys2Proof.Machine.execAndIzx b1 s
  | .rlaIzx b1 => Sys2Proof.Machine.execRlaIzx b1 s
  | .bitZp b1 => Sys2Proof.Machine.execBitZp b1 s
  | .andZp b1 => Sys2Proof.Machine.execAndZp b1 s
  | .rolZp b1 => Sys2Proof.Machine.execRolZp b1 s
  | .rlaZp b1 => Sys2Proof.Machine.execRlaZp b1 s
  | .andImm b1 => Sys2Proof.Machine.execAndImm b1 s
  | .ancImm2B b1 => Sys2Proof.Machine.execAncImm2B b1 s
  | .bitAbs b1 b2 => Sys2Proof.Machine.execBitAbs b1 b2 s
  | .andAbs b1 b2 => Sys2Proof.Machine.execAndAbs b1 b2 s
  | .rolAbs b1 b2 => Sys2Proof.Machine.execRolAbs b1 b2 s
  | .rlaAbs b1 b2 => Sys2Proof.Machine.execRlaAbs b1 b2 s
  | .bmi b1 => Sys2Proof.Machine.execBmi b1 s
  | .andIzy b1 => Sys2Proof.Machine.execAndIzy b1 s
  | .rlaIzy b1 => Sys2Proof.Machine.execRlaIzy b1 s
  | .nopZpx34 b1 => Sys2Proof.Machine.execNopZpx34 b1 s
  | .andZpx b1 => Sys2Proof.Machine.execAndZpx b1 s
  | .rolZpx b1 => Sys2Proof.Machine.execRolZpx b1 s
  | .rlaZpx b1 => Sys2Proof.Machine.execRlaZpx b1 s
  | .andAby b1 b2 => Sys2Proof.Machine.execAndAby b1 b2 s
  | .rlaAby b1 b2 => Sys2Proof.Machine.execRlaAby b1 b2 s
  | .nopAbx3C b1 b2 => Sys2Proof.Machine.execNopAbx3C b1 b2 s
  | .andAbx b1 b2 => Sys2Proof.Machine.execAndAbx b1 b2 s
  | .rolAbx b1 b2 => Sys2Proof.Machine.execRolAbx b1 b2 s
  | .rlaAbx b1 b2 => Sys2Proof.Machine.execRlaAbx b1 b2 s
  | .eorIzx b1 => Sys2Proof.Machine.execEorIzx b1 s
  | .sreIzx b1 => Sys2Proof.Machine.execSreIzx b1 s
  | .nopZp44 b1 => Sys2Proof.Machine.execNopZp44 b1 s
  | .eorZp b1 => Sys2Proof.Machine.execEorZp b1 s
  | .lsrZp b1 => Sys2Proof.Machine.execLsrZp b1 s
  | .sreZp b1 => Sys2Proof.Machine.execSreZp b1 s
  | .eorImm b1 => Sys2Proof.Machine.execEorImm b1 s
  | .alrImm b1 => Sys2Proof.Machine.execAlrImm b1 s
  | .jmpAbs b1 b2 => Sys2Proof.Machine.execJmpAbs b1 b2 s
  | .eorAbs b1 b2 => Sys2Proof.Machine.execEorAbs b1 b2 s
  | .lsrAbs b1 b2 => Sys2Proof.Machine.execLsrAbs b1 b2 s
  | .sreAbs b1 b2 => Sys2Proof.Machine.execSreAbs b1 b2 s
  | .bvc b1 => Sys2Proof.Machine.execBvc b1 s
  | .eorIzy b1 => Sys2Proof.Machine.execEorIzy b1 s
  | .sreIzy b1 => Sys2Proof.Machine.execSreIzy b1 s
  | .nopZpx54 b1 => Sys2Proof.Machine.execNopZpx54 b1 s
  | .eorZpx b1 => Sys2Proof.Machine.execEorZpx b1 s
  | .lsrZpx b1 => Sys2Proof.Machine.execLsrZpx b1 s
  | .sreZpx b1 => Sys2Proof.Machine.execSreZpx b1 s
  | .eorAby b1 b2 => Sys2Proof.Machine.execEorAby b1 b2 s
  | .sreAby b1 b2 => Sys2Proof.Machine.execSreAby b1 b2 s
  | .nopAbx5C b1 b2 => Sys2Proof.Machine.execNopAbx5C b1 b2 s
  | .eorAbx b1 b2 => Sys2Proof.Machine.execEorAbx b1 b2 s
  | .lsrAbx b1 b2 => Sys2Proof.Machine.execLsrAbx b1 b2 s
  | .sreAbx b1 b2 => Sys2Proof.Machine.execSreAbx b1 b2 s
  | .adcIzx b1 => Sys2Proof.Machine.execAdcIzx b1 s
  | .rraIzx b1 => Sys2Proof.Machine.execRraIzx b1 s
  | .nopZp64 b1 => Sys2Proof.Machine.execNopZp64 b1 s
  | .adcZp b1 => Sys2Proof.Machine.execAdcZp b1 s
  | .rorZp b1 => Sys2Proof.Machine.execRorZp b1 s
  | .rraZp b1 => Sys2Proof.Machine.execRraZp b1 s
  | .adcImm b1 => Sys2Proof.Machine.execAdcImm b1 s
  | .arrImm b1 => Sys2Proof.Machine.execArrImm b1 s
  | .jmpInd b1 b2 => Sys2Proof.Machine.execJmpInd b1 b2 s
  | .adcAbs b1 b2 => Sys2Proof.Machine.execAdcAbs b1 b2 s
  | .rorAbs b1 b2 => Sys2Proof.Machine.execRorAbs b1 b2 s
  | .rraAbs b1 b2 => Sys2Proof.Machine.execRraAbs b1 b2 s
  | .bvs b1 => Sys2Proof.Machine.execBvs b1 s
  | .adcIzy b1 => Sys2Proof.Machine.execAdcIzy b1 s
  | .rraIzy b1 => Sys2Proof.Machine.execRraIzy b1 s
  | .nopZpx74 b1 => Sys2Proof.Machine.execNopZpx74 b1 s
  | .adcZpx b1 => Sys2Proof.Machine.execAdcZpx b1 s
  | .rorZpx b1 => Sys2Proof.Machine.execRorZpx b1 s
  | .rraZpx b1 => Sys2Proof.Machine.execRraZpx b1 s
  | .adcAby b1 b2 => Sys2Proof.Machine.execAdcAby b1 b2 s
  | .rraAby b1 b2 => Sys2Proof.Machine.execRraAby b1 b2 s
  | .nopAbx7C b1 b2 => Sys2Proof.Machine.execNopAbx7C b1 b2 s
  | .adcAbx b1 b2 => Sys2Proof.Machine.execAdcAbx b1 b2 s
  | .rorAbx b1 b2 => Sys2Proof.Machine.execRorAbx b1 b2 s
  | .rraAbx b1 b2 => Sys2Proof.Machine.execRraAbx b1 b2 s
  | .nopImm80 b1 => Sys2Proof.Machine.execNopImm80 b1 s
  | .staIzx b1 => Sys2Proof.Machine.execStaIzx b1 s
  | .nopImm82 b1 => Sys2Proof.Machine.execNopImm82 b1 s
  | .saxIzx b1 => Sys2Proof.Machine.execSaxIzx b1 s
  | .styZp b1 => Sys2Proof.Machine.execStyZp b1 s
  | .staZp b1 => Sys2Proof.Machine.execStaZp b1 s
  | .stxZp b1 => Sys2Proof.Machine.execStxZp b1 s
  | .saxZp b1 => Sys2Proof.Machine.execSaxZp b1 s
  | .nopImm89 b1 => Sys2Proof.Machine.execNopImm89 b1 s
  | .aneImm b1 => Sys2Proof.Machine.execAneImm b1 s
  | .styAbs b1 b2 => Sys2Proof.Machine.execStyAbs b1 b2 s
  | .staAbs b1 b2 => Sys2Proof.Machine.execStaAbs b1 b2 s
  | .stxAbs b1 b2 => Sys2Proof.Machine.execStxAbs b1 b2 s
  | .saxAbs b1 b2 => Sys2Proof.Machine.execSaxAbs b1 b2 s
  | .bcc b1 => Sys2Proof.Machine.execBcc b1 s
  | .staIzy b1 => Sys2Proof.Machine.execStaIzy b1 s
  | .shaIzy b1 => Sys2Proof.Machine.execShaIzy b1 s
  | .styZpx b1 => Sys2Proof.Machine.execStyZpx b1 s
  | .staZpx b1 => Sys2Proof.Machine.execStaZpx b1 s
  | .stxZpy b1 => Sys2Proof.Machine.execStxZpy b1 s
  | .saxZpy b1 => Sys2Proof.Machine.execSaxZpy b1 s
  | .staAby b1 b2 => Sys2Proof.Machine.execStaAby b1 b2 s
  | .tasAby b1 b2 => Sys2Proof.Machine.execTasAby b1 b2 s
  | .shyAbx b1 b2 => Sys2Proof.Machine.execShyAbx b1 b2 s
  | .staAbx b1 b2 => Sys2Proof.Machine.execStaAbx b1 b2 s
  | .shxAby b1 b2 => Sys2Proof.Machine.execShxAby b1 b2 s
  | .shaAby b1 b2 => Sys2Proof.Machine.execShaAby b1 b2 s
  | .ldyImm b1 => Sys2Proof.Machine.execLdyImm b1 s
  | .ldaIzx b1 => Sys2Proof.Machine.execLdaIzx b1 s
  | .ldxImm b1 => Sys2Proof.Machine.execLdxImm b1 s
  | .laxIzx b1 => Sys2Proof.Machine.execLaxIzx b1 s
  | .ldyZp b1 => Sys2Proof.Machine.execLdyZp b1 s
  | .ldaZp b1 => Sys2Proof.Machine.execLdaZp b1 s
  | .ldxZp b1 => Sys2Proof.Machine.execLdxZp b1 s
  | .laxZp b1 => Sys2Proof.Machine.execLaxZp b1 s
  | .ldaImm b1 => Sys2Proof.Machine.execLdaImm b1 s
  | .lxaImm b1 => Sys2Proof.Machine.execLxaImm b1 s
  | .ldyAbs b1 b2 => Sys2Proof.Machine.execLdyAbs b1 b2 s
  | .ldaAbs b1 b2 => Sys2Proof.Machine.execLdaAbs b1 b2 s
  | .ldxAbs b1 b2 => Sys2Proof.Machine.execLdxAbs b1 b2 s
  | .laxAbs b1 b2 => Sys2Proof.Machine.execLaxAbs b1 b2 s
  | .bcs b1 => Sys2Proof.Machine.execBcs b1 s
  | .ldaIzy b1 => Sys2Proof.Machine.execLdaIzy b1 s
  | .laxIzy b1 => Sys2Proof.Machine.execLaxIzy b1 s
  | .ldyZpx b1 => Sys2Proof.Machine.execLdyZpx b1 s
  | .ldaZpx b1 => Sys2Proof.Machine.execLdaZpx b1 s
  | .ldxZpy b1 => Sys2Proof.Machine.execLdxZpy b1 s
  | .laxZpy b1 => Sys2Proof.Machine.execLaxZpy b1 s
  | .ldaAby b1 b2 => Sys2Proof.Machine.execLdaAby b1 b2 s
  | .lasAby b1 b2 => Sys2Proof.Machine.execLasAby b1 b2 s
  | .ldyAbx b1 b2 => Sys2Proof.Machine.execLdyAbx b1 b2 s
  | .ldaAbx b1 b2 => Sys2Proof.Machine.execLdaAbx b1 b2 s
  | .ldxAby b1 b2 => Sys2Proof.Machine.execLdxAby b1 b2 s
  | .laxAby b1 b2 => Sys2Proof.Machine.execLaxAby b1 b2 s
  | .cpyImm b1 => Sys2Proof.Machine.execCpyImm b1 s
  | .cmpIzx b1 => Sys2Proof.Machine.execCmpIzx b1 s
  | .nopImmC2 b1 => Sys2Proof.Machine.execNopImmC2 b1 s
  | .dcpIzx b1 => Sys2Proof.Machine.execDcpIzx b1 s
  | .cpyZp b1 => Sys2Proof.Machine.execCpyZp b1 s
  | .cmpZp b1 => Sys2Proof.Machine.execCmpZp b1 s
  | .decZp b1 => Sys2Proof.Machine.execDecZp b1 s
  | .dcpZp b1 => Sys2Proof.Machine.execDcpZp b1 s
  | .cmpImm b1 => Sys2Proof.Machine.execCmpImm b1 s
  | .sbxImm b1 => Sys2Proof.Machine.execSbxImm b1 s
  | .cpyAbs b1 b2 => Sys2Proof.Machine.execCpyAbs b1 b2 s
  | .cmpAbs b1 b2 => Sys2Proof.Machine.execCmpAbs b1 b2 s
  | .decAbs b1 b2 => Sys2Proof.Machine.execDecAbs b1 b2 s
  | .dcpAbs b1 b2 => Sys2Proof.Machine.execDcpAbs b1 b2 s
  | .bne b1 => Sys2Proof.Machine.execBne b1 s
  | .cmpIzy b1 => Sys2Proof.Machine.execCmpIzy b1 s
  | .dcpIzy b1 => Sys2Proof.Machine.execDcpIzy b1 s
  | .nopZpxD4 b1 => Sys2Proof.Machine.execNopZpxD4 b1 s
  | .cmpZpx b1 => Sys2Proof.Machine.execCmpZpx b1 s
  | .decZpx b1 => Sys2Proof.Machine.execDecZpx b1 s
  | .dcpZpx b1 => Sys2Proof.Machine.execDcpZpx b1 s
  | .cmpAby b1 b2 => Sys2Proof.Machine.execCmpAby b1 b2 s
  | .dcpAby b1 b2 => Sys2Proof.Machine.execDcpAby b1 b2 s
  | .nopAbxDC b1 b2 => Sys2Proof.Machine.execNopAbxDC b1 b2 s
  | .cmpAbx b1 b2 => Sys2Proof.Machine.execCmpAbx b1 b2 s
  | .decAbx b1 b2 => Sys2Proof.Machine.execDecAbx b1 b2 s
  | .dcpAbx b1 b2 => Sys2Proof.Machine.execDcpAbx b1 b2 s
  | .cpxImm b1 => Sys2Proof.Machine.execCpxImm b1 s
  | .sbcIzx b1 => Sys2Proof.Machine.execSbcIzx b1 s
  | .nopImmE2 b1 => Sys2Proof.Machine.execNopImmE2 b1 s
  | .iscIzx b1 => Sys2Proof.Machine.execIscIzx b1 s
  | .cpxZp b1 => Sys2Proof.Machine.execCpxZp b1 s
  | .sbcZp b1 => Sys2Proof.Machine.execSbcZp b1 s
  | .incZp b1 => Sys2Proof.Machine.execIncZp b1 s
  | .iscZp b1 => Sys2Proof.Machine.execIscZp b1 s
  | .sbcImm b1 => Sys2Proof.Machine.execSbcImm b1 s
  | .sbcImmEB b1 => Sys2Proof.Machine.execSbcImmEB b1 s
  | .cpxAbs b1 b2 => Sys2Proof.Machine.execCpxAbs b1 b2 s
  | .sbcAbs b1 b2 => Sys2Proof.Machine.execSbcAbs b1 b2 s
  | .incAbs b1 b2 => Sys2Proof.Machine.execIncAbs b1 b2 s
  | .iscAbs b1 b2 => Sys2Proof.Machine.execIscAbs b1 b2 s
  | .beq b1 => Sys2Proof.Machine.execBeq b1 s
  | .sbcIzy b1 => Sys2Proof.Machine.execSbcIzy b1 s
  | .iscIzy b1 => Sys2Proof.Machine.execIscIzy b1 s
  | .nopZpxF4 b1 => Sys2Proof.Machine.execNopZpxF4 b1 s
  | .sbcZpx b1 => Sys2Proof.Machine.execSbcZpx b1 s
  | .incZpx b1 => Sys2Proof.Machine.execIncZpx b1 s
  | .iscZpx b1 => Sys2Proof.Machine.execIscZpx b1 s
  | .sbcAby b1 b2 => Sys2Proof.Machine.execSbcAby b1 b2 s
  | .iscAby b1 b2 => Sys2Proof.Machine.execIscAby b1 b2 s
  | .nopAbxFC b1 b2 => Sys2Proof.Machine.execNopAbxFC b1 b2 s
  | .sbcAbx b1 b2 => Sys2Proof.Machine.execSbcAbx b1 b2 s
  | .incAbx b1 b2 => Sys2Proof.Machine.execIncAbx b1 b2 s
  | .iscAbx b1 b2 => Sys2Proof.Machine.execIscAbx b1 b2 s
  | .brk => Sys2Proof.Machine.execBrk s
  | .jam02 => Sys2Proof.Machine.execJam02 s
  | .php => Sys2Proof.Machine.execPhp s
  | .aslAcc => Sys2Proof.Machine.execAslAcc s
  | .jam12 => Sys2Proof.Machine.execJam12 s
  | .clc => Sys2Proof.Machine.execClc s
  | .nop1A => Sys2Proof.Machine.execNop1A s
  | .jam22 => Sys2Proof.Machine.execJam22 s
  | .plp => Sys2Proof.Machine.execPlp s
  | .rolAcc => Sys2Proof.Machine.execRolAcc s
  | .jam32 => Sys2Proof.Machine.execJam32 s
  | .sec => Sys2Proof.Machine.execSec s
  | .nop3A => Sys2Proof.Machine.execNop3A s
  | .rti => Sys2Proof.Machine.execRti s
  | .jam42 => Sys2Proof.Machine.execJam42 s
  | .pha => Sys2Proof.Machine.execPha s
  | .lsrAcc => Sys2Proof.Machine.execLsrAcc s
  | .jam52 => Sys2Proof.Machine.execJam52 s
  | .cli => Sys2Proof.Machine.execCli s
  | .nop5A => Sys2Proof.Machine.execNop5A s
  | .rts => Sys2Proof.Machine.execRts s
  | .jam62 => Sys2Proof.Machine.execJam62 s
  | .pla => Sys2Proof.Machine.execPla s
  | .rorAcc => Sys2Proof.Machine.execRorAcc s
  | .jam72 => Sys2Proof.Machine.execJam72 s
  | .sei => Sys2Proof.Machine.execSei s
  | .nop7A => Sys2Proof.Machine.execNop7A s
  | .dey => Sys2Proof.Machine.execDey s
  | .txa => Sys2Proof.Machine.execTxa s
  | .jam92 => Sys2Proof.Machine.execJam92 s
  | .tya => Sys2Proof.Machine.execTya s
  | .txs => Sys2Proof.Machine.execTxs s
  | .tay => Sys2Proof.Machine.execTay s
  | .tax => Sys2Proof.Machine.execTax s
  | .jamB2 => Sys2Proof.Machine.execJamB2 s
  | .clv => Sys2Proof.Machine.execClv s
  | .tsx => Sys2Proof.Machine.execTsx s
  | .iny => Sys2Proof.Machine.execIny s
  | .dex => Sys2Proof.Machine.execDex s
  | .jamD2 => Sys2Proof.Machine.execJamD2 s
  | .cld => Sys2Proof.Machine.execCld s
  | .nopDA => Sys2Proof.Machine.execNopDA s
  | .inx => Sys2Proof.Machine.execInx s
  | .nop => Sys2Proof.Machine.execNop s
  | .jamF2 => Sys2Proof.Machine.execJamF2 s
  | .sed => Sys2Proof.Machine.execSed s
  | .nopFA => Sys2Proof.Machine.execNopFA s
  | .tLslImm rd rs off => Sys2Proof.Machine.execTLslImm rd rs off s
  | .tLsrImm rd rs off => Sys2Proof.Machine.execTLsrImm rd rs off s
  | .tAsrImm rd rs off => Sys2Proof.Machine.execTAsrImm rd rs off s
  | .tAddReg rd rs rn => Sys2Proof.Machine.execTAddReg rd rs rn s
  | .tSubReg rd rs rn => Sys2Proof.Machine.execTSubReg rd rs rn s
  | .tAddImm3 rd rs imm => Sys2Proof.Machine.execTAddImm3 rd rs imm s
  | .tSubImm3 rd rs imm => Sys2Proof.Machine.execTSubImm3 rd rs imm s
  | .tMovImm rd imm => Sys2Proof.Machine.execTMovImm rd imm s
  | .tCmpImm rd imm => Sys2Proof.Machine.execTCmpImm rd imm s
  | .tAddImm8 rd imm => Sys2Proof.Machine.execTAddImm8 rd imm s
  | .tSubImm8 rd imm => Sys2Proof.Machine.execTSubImm8 rd imm s
  | .tAnd rd rs => Sys2Proof.Machine.execTAnd rd rs s
  | .tEor rd rs => Sys2Proof.Machine.execTEor rd rs s
  | .tLslReg rd rs => Sys2Proof.Machine.execTLslReg rd rs s
  | .tLsrReg rd rs => Sys2Proof.Machine.execTLsrReg rd rs s
  | .tAsrReg rd rs => Sys2Proof.Machine.execTAsrReg rd rs s
  | .tAdc rd rs => Sys2Proof.Machine.execTAdc rd rs s
  | .tSbc rd rs => Sys2Proof.Machine.execTSbc rd rs s
  | .tRorReg rd rs => Sys2Proof.Machine.execTRorReg rd rs s
  | .tTst rd rs => Sys2Proof.Machine.execTTst rd rs s
  | .tNeg rd rs => Sys2Proof.Machine.execTNeg rd rs s
  | .tCmpReg rd rs => Sys2Proof.Machine.execTCmpReg rd rs s
  | .tCmn rd rs => Sys2Proof.Machine.execTCmn rd rs s
  | .tOrr rd rs => Sys2Proof.Machine.execTOrr rd rs s
  | .tMul rd rs => Sys2Proof.Machine.execTMul rd rs s
  | .tBic rd rs => Sys2Proof.Machine.execTBic rd rs s
  | .tMvn rd rs => Sys2Proof.Machine.execTMvn rd rs s
  | .tAddHi rd rs => Sys2Proof.Machine.execTAddHi rd rs s
  | .tCmpHi rd rs => Sys2Proof.Machine.execTCmpHi rd rs s
  | .tMovHi rd rs => Sys2Proof.Machine.execTMovHi rd rs s
  | .tBx rs => Sys2Proof.Machine.execTBx rs s
  | .tLdrPc rd imm => Sys2Proof.Machine.execTLdrPc rd imm s
  | .tStrReg rd rb ro => Sys2Proof.Machine.execTStrReg rd rb ro s
  | .tStrbReg rd rb ro => Sys2Proof.Machine.execTStrbReg rd rb ro s
  | .tLdrReg rd rb ro => Sys2Proof.Machine.execTLdrReg rd rb ro s
  | .tLdrbReg rd rb ro => Sys2Proof.Machine.execTLdrbReg rd rb ro s
  | .tStrhReg rd rb ro => Sys2Proof.Machine.execTStrhReg rd rb ro s
  | .tLdrhReg rd rb ro => Sys2Proof.Machine.execTLdrhReg rd rb ro s
  | .tLdsbReg rd rb ro => Sys2Proof.Machine.execTLdsbReg rd rb ro s
  | .tLdshReg rd rb ro => Sys2Proof.Machine.execTLdshReg rd rb ro s
  | .tStrImm rd rb off => Sys2Proof.Machine.execTStrImm rd rb off s
  | .tLdrImm rd rb off => Sys2Proof.Machine.execTLdrImm rd rb off s
  | .tStrbImm rd rb off => Sys2Proof.Machine.execTStrbImm rd rb off s
  | .tLdrbImm rd rb off => Sys2Proof.Machine.execTLdrbImm rd rb off s
  | .tStrhImm rd rb off => Sys2Proof.Machine.execTStrhImm rd rb off s
  | .tLdrhImm rd rb off => Sys2Proof.Machine.execTLdrhImm rd rb off s
  | .tStrSp rd imm => Sys2Proof.Machine.execTStrSp rd imm s
  | .tLdrSp rd imm => Sys2Proof.Machine.execTLdrSp rd imm s
  | .tAddPc rd imm => Sys2Proof.Machine.execTAddPc rd imm s
  | .tAddSp rd imm => Sys2Proof.Machine.execTAddSp rd imm s
  | .tAddSpImm imm => Sys2Proof.Machine.execTAddSpImm imm s
  | .tSubSpImm imm => Sys2Proof.Machine.execTSubSpImm imm s
  | .tPush r list => Sys2Proof.Machine.execTPush r list s
  | .tPop r list => Sys2Proof.Machine.execTPop r list s
  | .tStmia rb list => Sys2Proof.Machine.execTStmia rb list s
  | .tLdmia rb list => Sys2Proof.Machine.execTLdmia rb list s
  | .tBeq off => Sys2Proof.Machine.execTBeq off s
  | .tBne off => Sys2Proof.Machine.execTBne off s
  | .tBcs off => Sys2Proof.Machine.execTBcs off s
  | .tBcc off => Sys2Proof.Machine.execTBcc off s
  | .tBmi off => Sys2Proof.Machine.execTBmi off s
  | .tBpl off => Sys2Proof.Machine.execTBpl off s
  | .tBvs off => Sys2Proof.Machine.execTBvs off s
  | .tBvc off => Sys2Proof.Machine.execTBvc off s
  | .tBhi off => Sys2Proof.Machine.execTBhi off s
  | .tBls off => Sys2Proof.Machine.execTBls off s
  | .tBge off => Sys2Proof.Machine.execTBge off s
  | .tBlt off => Sys2Proof.Machine.execTBlt off s
  | .tBgt off => Sys2Proof.Machine.execTBgt off s
  | .tBle off => Sys2Proof.Machine.execTBle off s
  | .tSwi imm => Sys2Proof.Machine.execTSwi imm s
  | .tB off => Sys2Proof.Machine.execTB off s
  | .tBlHi off => Sys2Proof.Machine.execTBlHi off s
  | .tBlLo off => Sys2Proof.Machine.execTBlLo off s

end Sys2Proof.Machine
end

