-- ==== Sys2Proof/Machine/Fetch.lean ====
section
/-! DEFINITION. What the step calls around `exec`: the configuration check, the fetch of a 6507 instruction, the resumption of
an ARM `Run()`, and the placing of one instruction where the next step fetches it. -/

namespace Sys2Proof.Machine

/-- The configurations the spec refuses (R92, R435, R484, R667). -/
def State.configRefusal (s : State) : Option Refusal :=
  if s.params.armArch = .armv7m then some .armV7M
  else if s.params.lostMotck then some .lostMotck
  else if s.mapper.variant = .flat ∧ s.mapper.romSize ≠ 2048 ∧ s.mapper.romSize ≠ 4096 then some .unsupportedMapper
  else none

/-- The byte a read would deliver, without the read (used for the third byte of JSR, which is fetched later: log 8). -/
def State.peek (addr : Addr) (s : State) : Byte := (s.deviceRead (busAddr addr)).1

/-- Cycle 1: the opcode goes to `IR` (R352). -/
def fetchOpcode (s : State) : Except Stop (Byte × State) := do
  let x ← fetchByte s
  pure (x.1, x.2.mapCpu (fun k => { k with ir := x.1 }))

/-- The bytes of an instruction fetched before it executes, and the instruction they decode to (R133, R151, R352, R353).
JSR fetches two bytes here and its third at its end (R367). -/
def fetchInstr (s : State) : Except Stop (Instr × State) := do
  let op ← fetchOpcode s
  let n := opLength op.1
  if n = 1 then pure (decode6507 op.1 0 0, op.2)
  else do
    let b1 ← fetchByte op.2
    if n = 2 then pure (decode6507 op.1 b1.1 0, b1.2)
    else if op.1 = 0x20 then pure (decode6507 op.1 b1.1 (b1.2.peek b1.2.cpu.pc), b1.2)
    else do
      let b2 ← fetchByte b1.2
      pure (decode6507 op.1 b1.1 b2.1, b2.2)

/-- The end of a 6507 instruction: the next cycle is an opcode fetch, `T <- 0` (R350). -/
def State.endInstr (s : State) : State := s.mapCpu (fun k => { k with t := 0 })

/-- One turn of an ARM `Run()` in progress; a yield ends it (R471, R507; log 7). -/
def State.armResume (s : State) : Except Stop State :=
  match s.armIterate with
  | .error e => .error e
  | .ok t => .ok (if t.arm.yield = .running then t else t.endRun)

/-! ### Placing an instruction (log 1) -/

/-- Whether a byte of the program can be stored at an address: RIOT RAM or the ROM of the flat mapper. -/
def State.placeable (addr : Addr) (s : State) : Bool :=
  match rangeOf (busAddr addr) with
  | .ram => true
  | .cartridge => s.mapper.variant == .flat
  | _ => false

/-- A byte of the program stored. -/
def State.place (addr : Addr) (v : Byte) (s : State) : State :=
  match rangeOf (busAddr addr) with
  | .ram => { s with riot := { s.riot with ram := s.riot.ram.write (ramIndex (busAddr addr)) v } }
  | .cartridge =>
    { s with mapper := { s.mapper with
        rom := s.mapper.rom.write ((cartOffset (busAddr addr)).toNat % s.mapper.romSize) v } }
  | _ => s

/-- The configuration made one the spec admits, for a program to run at all. -/
def State.admitted (s : State) : State :=
  { s with
    params := { s.params with armArch := .arm7tdmi, lostMotck := false }
    mapper := { s.mapper with
      romSize := if s.mapper.romSize = 2048 then 2048 else if s.mapper.variant = .flat then 4096
        else s.mapper.romSize } }

/-- Where the next opcode fetch can find a program: the PC, if its three bytes can be stored there, else the start of
the flat cartridge or of RAM. -/
def State.fetchSite (s : State) : Addr :=
  let pc := s.cpu.pc
  if s.placeable pc && s.placeable (pc + 1) && s.placeable (pc + 2) then pc
  else if s.mapper.variant = .flat then 0xF000
  else 0x0080

/-- A 6507 instruction placed where the next step fetches it. -/
def State.withFetch6507 (s : State) (w : Nat) : State :=
  let s := s.admitted
  let pc := s.fetchSite
  let s := ((s.place pc (BitVec.ofNat 8 w)).place (pc + 1) (BitVec.ofNat 8 (w / 256))).place (pc + 2)
    (BitVec.ofNat 8 (w / 65536))
  { s with
    cpu := { s.cpu with pc := pc, jammed := false, resetting := false, t := 0 }
    tia := { s.tia with wsync := false }
    arm := { s.arm with yield := if s.arm.yield = .running then .syncWithVcs else s.arm.yield } }

/-- Whether a halfword of the ARM program can be stored at an address. -/
def Params.fetchable (p : Params) (x : Word) : Bool := decide (x.toNat % 2 = 0) && p.inProgram x 2

/-- A Thumb halfword placed where a `Run()` in progress fetches it. -/
def State.withFetchThumb (s : State) (w : Nat) : State :=
  let s := s.admitted
  let known := s.params.fetchable s.arm.executingPC || s.params.fetchable s.params.programOrigin
  let p := if known then s.params else { s.params with programOrigin := 0, programSize := 0x8000 }
  let x := if s.params.fetchable s.arm.executingPC then s.arm.executingPC else p.programOrigin
  let arm := s.arm.atPC x
  { s with
    params := p
    mapper := { s.mapper with variant := .coproc }
    arm := { arm with
      yield := .running, interruptReq := false, skipBreak := true,
      progMem := s.arm.progMem.writeLE x.toNat 2 (w % 65536) } }

end Sys2Proof.Machine
end

