-- ==== Sys2Proof/Machine/Step.lean ====
section
/-! DEFINITION. One step of the block: a whole 6507 instruction as its sequence of driver steps, or one driver step in which
the 6507 does nothing, or one ARM instruction of a `Run()` in progress (R11, R350, R354, R720; log 7). -/

namespace Sys2Proof.Machine

/-- An instruction executed, then its end. -/
def State.execute (i : Instr) (s : State) : Host.Outcome State Fault Refusal :=
  match exec i s with
  | .next t => .next t.endInstr
  | .fault f => .fault f
  | .refused r => .refused r

/-- One step. -/
def step (s : State) : Host.Outcome State Fault Refusal :=
  match s.configRefusal with
  | some r => .refused r
  | none =>
    if s.mapper.variant = .coproc ∧ s.arm.yield = .running then run s.armResume
    else if s.cpu.resetting then run (resetSequence s)
    else if s.cpu.jammed then run (s.driverTail none)
    else if s.tia.wsync then run (s.driverTail none)
    else
      match fetchInstr s with
      | .error e => run (.error e)
      | .ok x => x.2.execute x.1

/-- The instruction of an opcode-table word stored where the next step fetches it (log 1). -/
def State.withFetchWord (s : State) (nbits w : Nat) : State :=
  if nbits = 16 then s.withFetchThumb w else s.withFetch6507 w

end Sys2Proof.Machine
end

