-- ==== Sys2Proof/Safety.lean ====
section
/-! DEFINITION. The terms the statements use: which states they speak of, what an instruction leaves alone, what an access
or a store does to memory, and the rows of the opcode table grouped by what they do, each with the effect the spec gives it
written out. -/

namespace Sys2Proof.Machine

/-- One of the Thumb rows of the opcode table, which follow the 256 rows of the 6507 (R147, R531). -/
def isThumb (i : Instr) : Bool := decide (256 ≤ i.ctorIdx)

/-! ### States -/

/-- The inserted cartridge carries no coprocessor (R33): the default `Flat` mapper or a bank-switching one. -/
def State.plainCart (s : State) : Prop := s.mapper.variant ≠ .coproc

/-- `UNDOC_POLICY = execute` (R310). -/
def State.runsUndoc (s : State) : Prop := s.params.undocPolicy = .execute

/-- The scheduler has room for `n` more events (R410). -/
def State.room (n : Nat) (s : State) : Prop := s.tia.liveEvents + n ≤ schedCapacity

/-- The next step fetches a 6507 instruction: the configuration is one the spec admits, no `Run()` is in progress, and the
CPU is neither in the reset sequence nor jammed nor stalled. -/
def State.readyToFetch (s : State) : Prop :=
  s.configRefusal = none ∧ ¬(s.mapper.variant = .coproc ∧ s.arm.yield = .running) ∧ s.cpu.resetting = false ∧
    s.cpu.jammed = false ∧ s.tia.wsync = false

/-- The next step runs one ARM instruction of a `Run()` in progress (R471): no interrupt request is pending and no
breakpoint stops it. -/
def State.readyForThumb (s : State) : Prop :=
  s.configRefusal = none ∧ s.mapper.variant = .coproc ∧ s.arm.yield = .running ∧ s.arm.interruptReq = false ∧
    (s.arm.skipBreak = true ∨ s.params.breakpoints.contains s.arm.executingPC = false)

/-! ### The 6507's registers -/

/-- The 6507 without its sub-step latches and cycle count (R28, R376: they are not observable). -/
def Cpu.arch (k : Cpu) : Cpu := { k with ir := 0, t := 0, adl := 0, adh := 0, bal := 0, dl := 0, fix := false }

/-! ### What does not change -/

/-- The parts of the block that no 6507 instruction on a cartridge without a coprocessor touches: the parameters, the ARM,
the shim, the ROM, and all of a `Flat` cartridge. -/
structure Outside (s t : State) : Prop where
  params : t.params = s.params
  arm : t.arm = s.arm
  shim : t.shim = s.shim
  variant : t.mapper.variant = s.mapper.variant
  rom : t.mapper.rom = s.mapper.rom
  flat : s.mapper.variant = .flat → t.mapper = s.mapper

/-- The time between two states in which nothing wrote to the TIA: three TIA ticks for each driver step (R416, R720). -/
structure Elapsed (s t : State) : Prop where
  steps : s.riot.steps ≤ t.riot.steps
  ticks : t.tia = s.tia.ticks s.params (3 * (t.riot.steps - s.riot.steps))

/-- RAM stays as it is. -/
def SameRam (s t : State) : Prop := t.riot.ram = s.riot.ram

/-- An instruction that only reads: memory and the rest of the block stay, the TIA only ticks. -/
structure Quiet (s t : State) : Prop where
  outside : Outside s t
  ram : SameRam s t
  elapsed : Elapsed s t

/-! ### RAM as the bus sees it -/

/-- An address selects a RIOT RAM byte (R83). -/
def inRam (a : Addr) : Prop := rangeOf (busAddr a) = .ram

/-- The RAM byte an address selects (R83, R84). -/
def State.ramByte (s : State) (a : Addr) : Byte := s.riot.ram.read (ramIndex (busAddr a))

/-- The RAM bytes after a store of `v` to an address: one byte is replaced if the address selects RAM (R83, R86). -/
def storeRam (a : Addr) (v : Byte) (ram : Nat → Byte) : Nat → Byte := fun j =>
  if rangeOf (busAddr a) = .ram ∧ j = ramIndex (busAddr a) then v else ram j

/-- The program byte at an address that needs no device to answer: RAM, or the ROM of a `Flat` cartridge (R83, R92). -/
def State.codeByte (s : State) (a : Addr) : Option Byte :=
  match rangeOf (busAddr a) with
  | .ram => some (s.ramByte a)
  | .cartridge => if s.mapper.variant = .flat then some (s.mapper.flatByte (cartOffset (busAddr a))) else none
  | _ => none

/-- A TIA write within a driver step: `TIA_WRITE_PHASE` of the three ticks pass, the register is written, the others pass
(R416, R721). -/
def TiaWritten (p : Params) (a : Addr) (v : Byte) (before after : Tia) : Prop :=
  ∃ u, (before.ticks p p.tiaWritePhase.val).write p ((busAddr a).setWidth 6) v = .ok u ∧
    after = u.ticks p (3 - p.tiaWritePhase.val)

/-- Every sprite of the TIA changed alike. -/
def Tia.mapSprites (f : Sprite → Sprite) (t : Tia) : Tia :=
  { t with
    p0 := { t.p0 with sprite := f t.p0.sprite }, p1 := { t.p1 with sprite := f t.p1.sprite }
    m0 := { t.m0 with sprite := f t.m0.sprite }, m1 := { t.m1 with sprite := f t.m1.sprite }
    bl := { t.bl with sprite := f t.bl.sprite } }

/-- A pixel position after NUSIZ changes from `old` to `new` (R430). -/
def nusizPixel (old new : BitVec 3) (x : Nat) : Nat :=
  if old = new then x
  else (x + 160 - (if old = 5 ∨ old = 7 then 1 else 0) + (if new = 5 ∨ new = 7 then 1 else 0)) % 160

/-- A player after `NUSIZp <- v` (R430). -/
def playerNusiz (v : Byte) (k : Player) : Player :=
  { k with
    nusiz := v.extractLsb' 0 3
    sprite := { k.sprite with
      resetPixel := nusizPixel k.nusiz (v.extractLsb' 0 3) k.sprite.resetPixel
      hmovedPixel := nusizPixel k.nusiz (v.extractLsb' 0 3) k.sprite.hmovedPixel } }

/-! ### The operand of a 6507 read instruction -/

/-- Where `M` comes from: the operand byte (R136), or a read at the effective address (R170, R200). -/
inductive Source where
  | value (m : Byte)
  | memory (ea : Ea)

/-- `M`, and the state after the cycles that deliver it. -/
def Source.fetch (src : Source) (s : State) : Except Stop (Byte × State) :=
  match src with
  | .value m => .ok (m, s)
  | .memory ea => do
    let e ← ea s
    cycleRead e.1 e.2

/-- A read instruction completes: `M` is fetched, the registers change as `op` says, memory stays. -/
def ReadsAs (s : State) (i : Instr) (src : Source) (op : Byte → Cpu → Cpu) : Prop :=
  ∃ x t, src.fetch s = .ok x ∧ exec i s = .next t ∧ t.cpu.arch = (op x.1 s.cpu).arch ∧ Quiet s t

/-- A store completes: the byte goes to the effective address, every other RAM byte, the registers and flags stay; a TIA
register is written, else the TIA only ticks. -/
def StoresAs (s : State) (i : Instr) (ea : Ea) (v : Byte) : Prop :=
  ∃ e t, ea s = .ok e ∧ exec i s = .next t ∧ t.cpu.arch = s.cpu.arch ∧ Quiet s e.2 ∧ Outside s t ∧
    (∀ j, t.riot.ram.read j = storeRam e.1 v s.riot.ram.read j) ∧
    (rangeOf (busAddr e.1) = .tia → TiaWritten s.params e.1 v e.2.tia t.tia) ∧
    (rangeOf (busAddr e.1) ≠ .tia → Elapsed s t)

/-- A read-modify-write completes: `x` is read at the effective address and written back, then the result is written; the
carry and what follows are as given. -/
def ModifiesAs (s : State) (i : Instr) (ea : Ea) (f : Byte → Bool → Byte × Bool) (post : Byte → Cpu → Cpu) : Prop :=
  ∃ e x t, ea s = .ok e ∧ cycleRead e.1 e.2 = .ok x ∧ exec i s = .next t ∧
    t.cpu.arch = (post (f x.1 s.cpu.c).1 { s.cpu with c := (f x.1 s.cpu.c).2 }).arch ∧ Quiet s x.2 ∧ Outside s t ∧
    (∀ j, t.riot.ram.read j = storeRam e.1 (f x.1 s.cpu.c).1 s.riot.ram.read j) ∧
    (rangeOf (busAddr e.1) = .tia →
      ∃ u, TiaWritten s.params e.1 x.1 x.2.tia u ∧ TiaWritten s.params e.1 (f x.1 s.cpu.c).1 u t.tia) ∧
    (rangeOf (busAddr e.1) ≠ .tia → Elapsed s t)

/-- An instruction completes with these registers and flags, and changes no memory. -/
def RegistersOnly (s : State) (i : Instr) (k : Cpu) : Prop := ∃ t, exec i s = .next t ∧ t.cpu.arch = k.arch ∧ Quiet s t

/-- An instruction that pushed these bytes, the first first: nothing else in RAM changes, and the TIA only ticks if no push
reached it. -/
structure Pushed (s t : State) (ws : List (Addr × Byte)) : Prop where
  outside : Outside s t
  ram : ∀ j, t.riot.ram.read j = (ws.foldl (fun ram w => storeRam w.1 w.2 ram) s.riot.ram.read) j
  elapsed : (∀ w ∈ ws, rangeOf (busAddr w.1) ≠ .tia) → Elapsed s t

/-- Two decimal digits. -/
def isBcd (v : Byte) : Prop := v.toNat / 16 ≤ 9 ∧ v.toNat % 16 ≤ 9

/-- Their value. -/
def bcdValue (v : Byte) : Nat := 10 * (v.toNat / 16) + v.toNat % 16

/-! ### Effects on the 6507's registers, as the rules write them -/

/-- `setNZ(v)` (R8): N is bit 7, Z says that the value is 0. -/
def flagsNZ (v : Byte) (k : Cpu) : Cpu := { k with n := v.getLsbD 7, z := decide (v = 0) }

/-- `A <- v; setNZ(v)`. -/
def intoA (v : Byte) (k : Cpu) : Cpu := { flagsNZ v k with a := v }

/-- `X <- v; setNZ(v)`. -/
def intoX (v : Byte) (k : Cpu) : Cpu := { flagsNZ v k with x := v }

/-- `Y <- v; setNZ(v)`. -/
def intoY (v : Byte) (k : Cpu) : Cpu := { flagsNZ v k with y := v }

/-- `compare(r, M)` (R210): C says `r >= M`, unsigned. -/
def comparing (r m : Byte) (k : Cpu) : Cpu := { flagsNZ (r - m) k with c := decide (m.toNat ≤ r.toNat) }

/-- The four flags and A of an addition or subtraction (R202, R203, R205, R206). -/
def takes (o : AluOut) (k : Cpu) : Cpu := { k with a := o.r, n := o.n, v := o.v, z := o.z, c := o.c }

/-- ADC (R201). -/
def adding (m : Byte) (k : Cpu) : Cpu := takes (if k.d then adcDecimal k.a m k.c else adcBinary k.a m k.c) k

/-- SBC (R204). -/
def subtracting (m : Byte) (k : Cpu) : Cpu := takes (if k.d then sbcDecimal k.a m k.c else sbcBinary k.a m k.c) k

/-- BIT (R214). -/
def testing (m : Byte) (k : Cpu) : Cpu :=
  { k with n := m.getLsbD 7, v := m.getLsbD 6, z := decide (k.a &&& m = 0) }

/-- The flags from a pulled byte (R26, R263, R278). -/
def flagsFrom (p : Byte) (k : Cpu) : Cpu :=
  { k with n := p.getLsbD 7, v := p.getLsbD 6, d := p.getLsbD 3, i := p.getLsbD 2, z := p.getLsbD 1,
           c := p.getLsbD 0 }

/-! ### The rows of the opcode table, with their effects -/

/-- ASL: the result and the carry (R231). -/
def shiftLeft (v : Byte) (_ : Bool) : Byte × Bool := (v <<< 1, v.getLsbD 7)

/-- LSR (R232). -/
def shiftRight (v : Byte) (_ : Bool) : Byte × Bool := (v >>> 1, v.getLsbD 0)

/-- ROL (R233). -/
def rotateLeft (v : Byte) (c : Bool) : Byte × Bool := ((v <<< 1) ||| (if c then 0x01 else 0x00), v.getLsbD 7)

/-- ROR (R234). -/
def rotateRight (v : Byte) (c : Bool) : Byte × Bool := ((v >>> 1) ||| (if c then 0x80 else 0x00), v.getLsbD 0)

/-- INC: C stays (R235). -/
def increment (v : Byte) (c : Bool) : Byte × Bool := (v + 1, c)

/-- DEC: C stays (R236). -/
def decrement (v : Byte) (c : Bool) : Byte × Bool := (v - 1, c)

/-- LAX (R317). -/
def laxing (m : Byte) (k : Cpu) : Cpu := { intoA m k with x := m }

/-- LAS (R335). -/
def lasing (m : Byte) (k : Cpu) : Cpu := { intoA (m &&& k.sp) k with x := m &&& k.sp, sp := m &&& k.sp }

/-- ANC (R320). -/
def ancing (m : Byte) (k : Cpu) : Cpu := { intoA (k.a &&& m) k with c := (k.a &&& m).getLsbD 7 }

/-- ALR (R321). -/
def alring (m : Byte) (k : Cpu) : Cpu := { intoA ((k.a &&& m) >>> 1) k with c := (k.a &&& m).getLsbD 0 }

/-- ARR with D = 0 (R322). -/
def arring (m : Byte) (k : Cpu) : Cpu :=
  let r := (rotateRight (k.a &&& m) k.c).1
  { intoA r k with c := r.getLsbD 6, v := r.getLsbD 6 ^^ r.getLsbD 5 }

/-- SBX (R323). -/
def sbxing (m : Byte) (k : Cpu) : Cpu :=
  { intoX ((k.a &&& k.x) - m) k with c := decide (m.toNat ≤ (k.a &&& k.x).toNat) }

/-- The loads (R171 to R173). -/
def loadRows (b1 b2 : Byte) : List (Instr × Source × (Byte → Cpu → Cpu)) :=
  [(.ldaIzx b1, .memory (eaIzx b1), intoA), (.ldaZp b1, .memory (eaZp b1), intoA), (.ldaImm b1, .value b1, intoA),
   (.ldaAbs b1 b2, .memory (eaAbs b1 b2), intoA), (.ldaIzy b1, .memory (eaIzyRead b1), intoA),
   (.ldaZpx b1, .memory (eaZpx b1), intoA), (.ldaAby b1 b2, .memory (eaAbyRead b1 b2), intoA),
   (.ldaAbx b1 b2, .memory (eaAbxRead b1 b2), intoA), (.ldxImm b1, .value b1, intoX),
   (.ldxZp b1, .memory (eaZp b1), intoX), (.ldxAbs b1 b2, .memory (eaAbs b1 b2), intoX),
   (.ldxZpy b1, .memory (eaZpy b1), intoX), (.ldxAby b1 b2, .memory (eaAbyRead b1 b2), intoX),
   (.ldyImm b1, .value b1, intoY), (.ldyZp b1, .memory (eaZp b1), intoY),
   (.ldyAbs b1 b2, .memory (eaAbs b1 b2), intoY), (.ldyZpx b1, .memory (eaZpx b1), intoY),
   (.ldyAbx b1 b2, .memory (eaAbxRead b1 b2), intoY)]

/-- AND, ORA, EOR (R207 to R209) and BIT (R214). -/
def logicRows (b1 b2 : Byte) : List (Instr × Source × (Byte → Cpu → Cpu)) :=
  [(.andIzx b1, .memory (eaIzx b1), fun m k => intoA (k.a &&& m) k),
   (.andZp b1, .memory (eaZp b1), fun m k => intoA (k.a &&& m) k),
   (.andImm b1, .value b1, fun m k => intoA (k.a &&& m) k),
   (.andAbs b1 b2, .memory (eaAbs b1 b2), fun m k => intoA (k.a &&& m) k),
   (.andIzy b1, .memory (eaIzyRead b1), fun m k => intoA (k.a &&& m) k),
   (.andZpx b1, .memory (eaZpx b1), fun m k => intoA (k.a &&& m) k),
   (.andAby b1 b2, .memory (eaAbyRead b1 b2), fun m k => intoA (k.a &&& m) k),
   (.andAbx b1 b2, .memory (eaAbxRead b1 b2), fun m k => intoA (k.a &&& m) k),
   (.oraIzx b1, .memory (eaIzx b1), fun m k => intoA (k.a ||| m) k),
   (.oraZp b1, .memory (eaZp b1), fun m k => intoA (k.a ||| m) k),
   (.oraImm b1, .value b1, fun m k => intoA (k.a ||| m) k),
   (.oraAbs b1 b2, .memory (eaAbs b1 b2), fun m k => intoA (k.a ||| m) k),
   (.oraIzy b1, .memory (eaIzyRead b1), fun m k => intoA (k.a ||| m) k),
   (.oraZpx b1, .memory (eaZpx b1), fun m k => intoA (k.a ||| m) k),
   (.oraAby b1 b2, .memory (eaAbyRead b1 b2), fun m k => intoA (k.a ||| m) k),
   (.oraAbx b1 b2, .memory (eaAbxRead b1 b2), fun m k => intoA (k.a ||| m) k),
   (.eorIzx b1, .memory (eaIzx b1), fun m k => intoA (k.a ^^^ m) k),
   (.eorZp b1, .memory (eaZp b1), fun m k => intoA (k.a ^^^ m) k),
   (.eorImm b1, .value b1, fun m k => intoA (k.a ^^^ m) k),
   (.eorAbs b1 b2, .memory (eaAbs b1 b2), fun m k => intoA (k.a ^^^ m) k),
   (.eorIzy b1, .memory (eaIzyRead b1), fun m k => intoA (k.a ^^^ m) k),
   (.eorZpx b1, .memory (eaZpx b1), fun m k => intoA (k.a ^^^ m) k),
   (.eorAby b1 b2, .memory (eaAbyRead b1 b2), fun m k => intoA (k.a ^^^ m) k),
   (.eorAbx b1 b2, .memory (eaAbxRead b1 b2), fun m k => intoA (k.a ^^^ m) k),
   (.bitZp b1, .memory (eaZp b1), testing), (.bitAbs b1 b2, .memory (eaAbs b1 b2), testing)]

/-- ADC and SBC (R201, R204). -/
def sumRows (b1 b2 : Byte) : List (Instr × Source × (Byte → Cpu → Cpu)) :=
  [(.adcIzx b1, .memory (eaIzx b1), adding), (.adcZp b1, .memory (eaZp b1), adding), (.adcImm b1, .value b1, adding),
   (.adcAbs b1 b2, .memory (eaAbs b1 b2), adding), (.adcIzy b1, .memory (eaIzyRead b1), adding),
   (.adcZpx b1, .memory (eaZpx b1), adding), (.adcAby b1 b2, .memory (eaAbyRead b1 b2), adding),
   (.adcAbx b1 b2, .memory (eaAbxRead b1 b2), adding), (.sbcIzx b1, .memory (eaIzx b1), subtracting),
   (.sbcZp b1, .memory (eaZp b1), subtracting), (.sbcImm b1, .value b1, subtracting),
   (.sbcAbs b1 b2, .memory (eaAbs b1 b2), subtracting), (.sbcIzy b1, .memory (eaIzyRead b1), subtracting),
   (.sbcZpx b1, .memory (eaZpx b1), subtracting), (.sbcAby b1 b2, .memory (eaAbyRead b1 b2), subtracting),
   (.sbcAbx b1 b2, .memory (eaAbxRead b1 b2), subtracting)]

/-- CMP, CPX, CPY (R211 to R213). -/
def compareRows (b1 b2 : Byte) : List (Instr × Source × (Byte → Cpu → Cpu)) :=
  [(.cmpIzx b1, .memory (eaIzx b1), fun m k => comparing k.a m k),
   (.cmpZp b1, .memory (eaZp b1), fun m k => comparing k.a m k),
   (.cmpImm b1, .value b1, fun m k => comparing k.a m k),
   (.cmpAbs b1 b2, .memory (eaAbs b1 b2), fun m k => comparing k.a m k),
   (.cmpIzy b1, .memory (eaIzyRead b1), fun m k => comparing k.a m k),
   (.cmpZpx b1, .memory (eaZpx b1), fun m k => comparing k.a m k),
   (.cmpAby b1 b2, .memory (eaAbyRead b1 b2), fun m k => comparing k.a m k),
   (.cmpAbx b1 b2, .memory (eaAbxRead b1 b2), fun m k => comparing k.a m k),
   (.cpxImm b1, .value b1, fun m k => comparing k.x m k),
   (.cpxZp b1, .memory (eaZp b1), fun m k => comparing k.x m k),
   (.cpxAbs b1 b2, .memory (eaAbs b1 b2), fun m k => comparing k.x m k),
   (.cpyImm b1, .value b1, fun m k => comparing k.y m k),
   (.cpyZp b1, .memory (eaZp b1), fun m k => comparing k.y m k),
   (.cpyAbs b1 b2, .memory (eaAbs b1 b2), fun m k => comparing k.y m k)]

/-- The undocumented read instructions: LAX, LAS, ANC, ALR, SBX, SBC `EB`, and NOP with an operand (R317, R320, R321, R323, R334 to R336). -/
def undocReadRows (b1 b2 : Byte) : List (Instr × Source × (Byte → Cpu → Cpu)) :=
  [(.laxIzx b1, .memory (eaIzx b1), laxing), (.laxZp b1, .memory (eaZp b1), laxing),
   (.laxAbs b1 b2, .memory (eaAbs b1 b2), laxing), (.laxIzy b1, .memory (eaIzyRead b1), laxing),
   (.laxZpy b1, .memory (eaZpy b1), laxing), (.laxAby b1 b2, .memory (eaAbyRead b1 b2), laxing),
   (.lasAby b1 b2, .memory (eaAbyRead b1 b2), lasing), (.ancImm0B b1, .value b1, ancing),
   (.ancImm2B b1, .value b1, ancing), (.alrImm b1, .value b1, alring), (.sbxImm b1, .value b1, sbxing),
   (.sbcImmEB b1, .value b1, subtracting), (.nopZp04 b1, .memory (eaZp b1), fun _ k => k),
   (.nopAbs b1 b2, .memory (eaAbs b1 b2), fun _ k => k), (.nopZpx14 b1, .memory (eaZpx b1), fun _ k => k),
   (.nopAbx1C b1 b2, .memory (eaAbxRead b1 b2), fun _ k => k), (.nopZpx34 b1, .memory (eaZpx b1), fun _ k => k),
   (.nopAbx3C b1 b2, .memory (eaAbxRead b1 b2), fun _ k => k), (.nopZp44 b1, .memory (eaZp b1), fun _ k => k),
   (.nopZpx54 b1, .memory (eaZpx b1), fun _ k => k), (.nopAbx5C b1 b2, .memory (eaAbxRead b1 b2), fun _ k => k),
   (.nopZp64 b1, .memory (eaZp b1), fun _ k => k), (.nopZpx74 b1, .memory (eaZpx b1), fun _ k => k),
   (.nopAbx7C b1 b2, .memory (eaAbxRead b1 b2), fun _ k => k), (.nopImm80 b1, .value b1, fun _ k => k),
   (.nopImm82 b1, .value b1, fun _ k => k), (.nopImm89 b1, .value b1, fun _ k => k),
   (.nopImmC2 b1, .value b1, fun _ k => k), (.nopZpxD4 b1, .memory (eaZpx b1), fun _ k => k),
   (.nopAbxDC b1 b2, .memory (eaAbxRead b1 b2), fun _ k => k), (.nopImmE2 b1, .value b1, fun _ k => k),
   (.nopZpxF4 b1, .memory (eaZpx b1), fun _ k => k), (.nopAbxFC b1 b2, .memory (eaAbxRead b1 b2), fun _ k => k)]

/-- The stores (R174 to R176): the effective address and the byte stored. -/
def storeRows (b1 b2 : Byte) : List (Instr × Ea × (Cpu → Byte)) :=
  [(.staIzx b1, eaIzx b1, fun k => k.a), (.staZp b1, eaZp b1, fun k => k.a),
   (.staAbs b1 b2, eaAbs b1 b2, fun k => k.a), (.staIzy b1, eaIzyFixed b1, fun k => k.a),
   (.staZpx b1, eaZpx b1, fun k => k.a), (.staAby b1 b2, eaAbyFixed b1 b2, fun k => k.a),
   (.staAbx b1 b2, eaAbxFixed b1 b2, fun k => k.a), (.stxZp b1, eaZp b1, fun k => k.x),
   (.stxAbs b1 b2, eaAbs b1 b2, fun k => k.x), (.stxZpy b1, eaZpy b1, fun k => k.x),
   (.styZp b1, eaZp b1, fun k => k.y), (.styAbs b1 b2, eaAbs b1 b2, fun k => k.y),
   (.styZpx b1, eaZpx b1, fun k => k.y)]

/-- SAX (R316). -/
def undocStoreRows (b1 b2 : Byte) : List (Instr × Ea × (Cpu → Byte)) :=
  [(.saxIzx b1, eaIzx b1, fun k => k.a &&& k.x), (.saxZp b1, eaZp b1, fun k => k.a &&& k.x),
   (.saxAbs b1 b2, eaAbs b1 b2, fun k => k.a &&& k.x), (.saxZpy b1, eaZpy b1, fun k => k.a &&& k.x)]

/-- The memory forms of ASL, LSR, ROL, ROR, INC, DEC (R230 to R236): the address, the result with the carry, and what follows. -/
def rmwRows (b1 b2 : Byte) : List (Instr × Ea × (Byte → Bool → Byte × Bool) × (Byte → Cpu → Cpu)) :=
  [(.aslZp b1, eaZp b1, shiftLeft, flagsNZ), (.aslAbs b1 b2, eaAbs b1 b2, shiftLeft, flagsNZ),
   (.aslZpx b1, eaZpx b1, shiftLeft, flagsNZ), (.aslAbx b1 b2, eaAbxFixed b1 b2, shiftLeft, flagsNZ),
   (.lsrZp b1, eaZp b1, shiftRight, flagsNZ), (.lsrAbs b1 b2, eaAbs b1 b2, shiftRight, flagsNZ),
   (.lsrZpx b1, eaZpx b1, shiftRight, flagsNZ), (.lsrAbx b1 b2, eaAbxFixed b1 b2, shiftRight, flagsNZ),
   (.rolZp b1, eaZp b1, rotateLeft, flagsNZ), (.rolAbs b1 b2, eaAbs b1 b2, rotateLeft, flagsNZ),
   (.rolZpx b1, eaZpx b1, rotateLeft, flagsNZ), (.rolAbx b1 b2, eaAbxFixed b1 b2, rotateLeft, flagsNZ),
   (.rorZp b1, eaZp b1, rotateRight, flagsNZ), (.rorAbs b1 b2, eaAbs b1 b2, rotateRight, flagsNZ),
   (.rorZpx b1, eaZpx b1, rotateRight, flagsNZ), (.rorAbx b1 b2, eaAbxFixed b1 b2, rotateRight, flagsNZ),
   (.incZp b1, eaZp b1, increment, flagsNZ), (.incAbs b1 b2, eaAbs b1 b2, increment, flagsNZ),
   (.incZpx b1, eaZpx b1, increment, flagsNZ), (.incAbx b1 b2, eaAbxFixed b1 b2, increment, flagsNZ),
   (.decZp b1, eaZp b1, decrement, flagsNZ), (.decAbs b1 b2, eaAbs b1 b2, decrement, flagsNZ),
   (.decZpx b1, eaZpx b1, decrement, flagsNZ), (.decAbx b1 b2, eaAbxFixed b1 b2, decrement, flagsNZ)]

/-- SLO, RLA, SRE, RRA, DCP, ISC (R311 to R315, R318, R319). -/
def undocRmwRows (b1 b2 : Byte) : List (Instr × Ea × (Byte → Bool → Byte × Bool) × (Byte → Cpu → Cpu)) :=
  [(.sloIzx b1, eaIzx b1, shiftLeft, fun r k => intoA (k.a ||| r) k),
   (.sloZp b1, eaZp b1, shiftLeft, fun r k => intoA (k.a ||| r) k),
   (.sloAbs b1 b2, eaAbs b1 b2, shiftLeft, fun r k => intoA (k.a ||| r) k),
   (.sloIzy b1, eaIzyFixed b1, shiftLeft, fun r k => intoA (k.a ||| r) k),
   (.sloZpx b1, eaZpx b1, shiftLeft, fun r k => intoA (k.a ||| r) k),
   (.sloAby b1 b2, eaAbyFixed b1 b2, shiftLeft, fun r k => intoA (k.a ||| r) k),
   (.sloAbx b1 b2, eaAbxFixed b1 b2, shiftLeft, fun r k => intoA (k.a ||| r) k),
   (.rlaIzx b1, eaIzx b1, rotateLeft, fun r k => intoA (k.a &&& r) k),
   (.rlaZp b1, eaZp b1, rotateLeft, fun r k => intoA (k.a &&& r) k),
   (.rlaAbs b1 b2, eaAbs b1 b2, rotateLeft, fun r k => intoA (k.a &&& r) k),
   (.rlaIzy b1, eaIzyFixed b1, rotateLeft, fun r k => intoA (k.a &&& r) k),
   (.rlaZpx b1, eaZpx b1, rotateLeft, fun r k => intoA (k.a &&& r) k),
   (.rlaAby b1 b2, eaAbyFixed b1 b2, rotateLeft, fun r k => intoA (k.a &&& r) k),
   (.rlaAbx b1 b2, eaAbxFixed b1 b2, rotateLeft, fun r k => intoA (k.a &&& r) k),
   (.sreIzx b1, eaIzx b1, shiftRight, fun r k => intoA (k.a ^^^ r) k),
   (.sreZp b1, eaZp b1, shiftRight, fun r k => intoA (k.a ^^^ r) k),
   (.sreAbs b1 b2, eaAbs b1 b2, shiftRight, fun r k => intoA (k.a ^^^ r) k),
   (.sreIzy b1, eaIzyFixed b1, shiftRight, fun r k => intoA (k.a ^^^ r) k),
   (.sreZpx b1, eaZpx b1, shiftRight, fun r k => intoA (k.a ^^^ r) k),
   (.sreAby b1 b2, eaAbyFixed b1 b2, shiftRight, fun r k => intoA (k.a ^^^ r) k),
   (.sreAbx b1 b2, eaAbxFixed b1 b2, shiftRight, fun r k => intoA (k.a ^^^ r) k),
   (.rraIzx b1, eaIzx b1, rotateRight, adding), (.rraZp b1, eaZp b1, rotateRight, adding),
   (.rraAbs b1 b2, eaAbs b1 b2, rotateRight, adding), (.rraIzy b1, eaIzyFixed b1, rotateRight, adding),
   (.rraZpx b1, eaZpx b1, rotateRight, adding), (.rraAby b1 b2, eaAbyFixed b1 b2, rotateRight, adding),
   (.rraAbx b1 b2, eaAbxFixed b1 b2, rotateRight, adding),
   (.dcpIzx b1, eaIzx b1, decrement, fun r k => comparing k.a r k),
   (.dcpZp b1, eaZp b1, decrement, fun r k => comparing k.a r k),
   (.dcpAbs b1 b2, eaAbs b1 b2, decrement, fun r k => comparing k.a r k),
   (.dcpIzy b1, eaIzyFixed b1, decrement, fun r k => comparing k.a r k),
   (.dcpZpx b1, eaZpx b1, decrement, fun r k => comparing k.a r k),
   (.dcpAby b1 b2, eaAbyFixed b1 b2, decrement, fun r k => comparing k.a r k),
   (.dcpAbx b1 b2, eaAbxFixed b1 b2, decrement, fun r k => comparing k.a r k),
   (.iscIzx b1, eaIzx b1, increment, subtracting), (.iscZp b1, eaZp b1, increment, subtracting),
   (.iscAbs b1 b2, eaAbs b1 b2, increment, subtracting), (.iscIzy b1, eaIzyFixed b1, increment, subtracting),
   (.iscZpx b1, eaZpx b1, increment, subtracting), (.iscAby b1 b2, eaAbyFixed b1 b2, increment, subtracting),
   (.iscAbx b1 b2, eaAbxFixed b1 b2, increment, subtracting)]

/-- The transfers, register increments, flag instructions and NOP (R177 to R182, R237 to R240, R274, R279 to R285). -/
def impliedRows  : List (Instr × (Cpu → Cpu)) :=
  [(.tax, fun k => intoX k.a k), (.tay, fun k => intoY k.a k), (.txa, fun k => intoA k.x k),
   (.tya, fun k => intoA k.y k), (.tsx, fun k => intoX k.sp k), (.txs, fun k => { k with sp := k.x }),
   (.inx, fun k => intoX (k.x + 1) k), (.iny, fun k => intoY (k.y + 1) k), (.dex, fun k => intoX (k.x - 1) k),
   (.dey, fun k => intoY (k.y - 1) k), (.clc, fun k => { k with c := false }), (.sec, fun k => { k with c := true }),
   (.cli, fun k => { k with i := false }), (.sei, fun k => { k with i := true }),
   (.clv, fun k => { k with v := false }), (.cld, fun k => { k with d := false }),
   (.sed, fun k => { k with d := true }), (.nop, fun k => k)]

/-- The accumulator forms of ASL, LSR, ROL, ROR (R231 to R234). -/
def shiftARows  : List (Instr × (Byte → Bool → Byte × Bool)) :=
  [(.aslAcc, shiftLeft), (.lsrAcc, shiftRight), (.rolAcc, rotateLeft), (.rorAcc, rotateRight)]

/-- The undocumented one-byte NOPs (R336). -/
def undocNopRows  : List (Instr) :=
  [.nop1A, .nop3A, .nop5A, .nop7A, .nopDA, .nopFA]

/-- The branches with their conditions (R266 to R273). -/
def branchRows (b1 : Byte) : List (Instr × (Cpu → Bool)) :=
  [(.bpl b1, fun k => !k.n), (.bmi b1, fun k => k.n), (.bvc b1, fun k => !k.v), (.bvs b1, fun k => k.v),
   (.bcc b1, fun k => !k.c), (.bcs b1, fun k => k.c), (.bne b1, fun k => !k.z), (.beq b1, fun k => k.z)]

/-- The JAM opcodes (R341). -/
def jamRows  : List (Instr) :=
  [.jam02, .jam12, .jam22, .jam32, .jam42, .jam52, .jam62, .jam72, .jam92, .jamB2, .jamD2, .jamF2]

/-- The seven unstable opcodes (R340). -/
def unstableRows (b1 b2 : Byte) : List (Instr) :=
  [.aneImm b1, .shaIzy b1, .tasAby b1 b2, .shyAbx b1 b2, .shxAby b1 b2, .shaAby b1 b2, .lxaImm b1]

/-- All 105 undocumented opcodes (R310). -/
def undocRows (b1 b2 : Byte) : List (Instr) :=
  [.jam02, .sloIzx b1, .nopZp04 b1, .sloZp b1, .ancImm0B b1, .nopAbs b1 b2, .sloAbs b1 b2, .jam12, .sloIzy b1,
   .nopZpx14 b1, .sloZpx b1, .nop1A, .sloAby b1 b2, .nopAbx1C b1 b2, .sloAbx b1 b2, .jam22, .rlaIzx b1, .rlaZp b1,
   .ancImm2B b1, .rlaAbs b1 b2, .jam32, .rlaIzy b1, .nopZpx34 b1, .rlaZpx b1, .nop3A, .rlaAby b1 b2, .nopAbx3C b1 b2,
   .rlaAbx b1 b2, .jam42, .sreIzx b1, .nopZp44 b1, .sreZp b1, .alrImm b1, .sreAbs b1 b2, .jam52, .sreIzy b1,
   .nopZpx54 b1, .sreZpx b1, .nop5A, .sreAby b1 b2, .nopAbx5C b1 b2, .sreAbx b1 b2, .jam62, .rraIzx b1, .nopZp64 b1,
   .rraZp b1, .arrImm b1, .rraAbs b1 b2, .jam72, .rraIzy b1, .nopZpx74 b1, .rraZpx b1, .nop7A, .rraAby b1 b2,
   .nopAbx7C b1 b2, .rraAbx b1 b2, .nopImm80 b1, .nopImm82 b1, .saxIzx b1, .saxZp b1, .nopImm89 b1, .aneImm b1,
   .saxAbs b1 b2, .jam92, .shaIzy b1, .saxZpy b1, .tasAby b1 b2, .shyAbx b1 b2, .shxAby b1 b2, .shaAby b1 b2,
   .laxIzx b1, .laxZp b1, .lxaImm b1, .laxAbs b1 b2, .jamB2, .laxIzy b1, .laxZpy b1, .lasAby b1 b2, .laxAby b1 b2,
   .nopImmC2 b1, .dcpIzx b1, .dcpZp b1, .sbxImm b1, .dcpAbs b1 b2, .jamD2, .dcpIzy b1, .nopZpxD4 b1, .dcpZpx b1,
   .nopDA, .dcpAby b1 b2, .nopAbxDC b1 b2, .dcpAbx b1 b2, .nopImmE2 b1, .iscIzx b1, .iscZp b1, .sbcImmEB b1,
   .iscAbs b1 b2, .jamF2, .iscIzy b1, .nopZpxF4 b1, .iscZpx b1, .nopFA, .iscAby b1 b2, .nopAbxFC b1 b2, .iscAbx b1 b2]

/-! ### The ARM -/

/-- The state without what an ARM data instruction may change: registers, flags, the accounts of the instruction in
progress. -/
def State.sansRegs (s : State) : State :=
  { s with arm := { s.arm with r := Vector.replicate 16 0, n := false, z := false, c := false, v := false,
                               instr := ⟨0, 0, 0⟩, instrUnits := 0, lastWasI := false } }

/-- The register file after `R[i] <- v`. -/
def withReg (i : AnyReg) (v : Word) (regs : AnyReg → Word) : AnyReg → Word := fun j => if j = i then v else regs j

/-- The four flags of the CPSR (R51). -/
structure ArmFlags where
  n : Bool
  z : Bool
  c : Bool
  v : Bool
  deriving DecidableEq, Repr

/-- The flags of a state. -/
def State.armFlags (s : State) : ArmFlags := ⟨s.arm.n, s.arm.z, s.arm.c, s.arm.v⟩

/-- `setNZ32(r)`, the other two flags as given (R534). -/
def flagsNZ32 (r : Word) (c v : Bool) : ArmFlags := ⟨r.getLsbD 31, decide (r = 0), c, v⟩

/-- The result of `addFlags(a, b, c)` (R534). -/
def addition (a b : Word) (c : Bool) : Word := a + b + BitVec.ofNat 32 c.toNat

/-- The flags of `addFlags(a, b, c)`, as R534 writes them. -/
def additionFlags (a b : Word) (c : Bool) : ArmFlags :=
  flagsNZ32 (addition a b c) (decide (2 ^ 32 ≤ a.toNat + b.toNat + c.toNat))
    (decide (a.getLsbD 31 = b.getLsbD 31 ∧ (addition a b c).getLsbD 31 ≠ a.getLsbD 31))

/-- An ARM instruction that changes registers and flags as given and nothing else but its cycle accounts. -/
structure ArmEffect (s t : State) (regs : AnyReg → Word) (flags : ArmFlags) : Prop where
  regs : ∀ j, t.reg j = regs j
  flags : t.armFlags = flags
  rest : t.sansRegs = s.sansRegs

/-- A three-bit register read. -/
abbrev Val := State → Word

/-- Moves and logic of formats 3 and 4: destination and result; N and Z from the result (R545, R550, R551, R562, R564,
R565). -/
noncomputable def thumbLogicRows (rd rs : LowReg) (imm : Byte) : List (Instr × Val) :=
  [(.tMovImm rd imm, fun _ => imm.setWidth 32), (.tAnd rd rs, fun s => s.low rd &&& s.low rs),
   (.tEor rd rs, fun s => s.low rd ^^^ s.low rs), (.tOrr rd rs, fun s => s.low rd ||| s.low rs),
   (.tBic rd rs, fun s => s.low rd &&& ~~~ s.low rs), (.tMvn rd rs, fun s => ~~~ s.low rs)]

/-- Additions and subtractions whose result goes to `Rd`: the three arguments of `addFlags` (R540 to R543, R547, R548,
R555, R556, R559). -/
noncomputable def thumbSumRows (rd rs rn : LowReg) (imm3 : BitVec 3) (imm : Byte) :
    List (Instr × Val × Val × (State → Bool)) :=
  [(.tAddReg rd rs rn, fun s => s.low rs, fun s => s.low rn, fun _ => false),
   (.tSubReg rd rs rn, fun s => s.low rs, fun s => ~~~ s.low rn, fun _ => true),
   (.tAddImm3 rd rs imm3, fun s => s.low rs, fun _ => imm3.setWidth 32, fun _ => false),
   (.tSubImm3 rd rs imm3, fun s => s.low rs, fun _ => ~~~ imm3.setWidth 32, fun _ => true),
   (.tAddImm8 rd imm, fun s => s.low rd, fun _ => imm.setWidth 32, fun _ => false),
   (.tSubImm8 rd imm, fun s => s.low rd, fun _ => ~~~ imm.setWidth 32, fun _ => true),
   (.tAdc rd rs, fun s => s.low rd, fun s => s.low rs, fun s => s.arm.c),
   (.tSbc rd rs, fun s => s.low rd, fun s => ~~~ s.low rs, fun s => s.arm.c),
   (.tNeg rd rs, fun _ => 0, fun s => ~~~ s.low rs, fun _ => true)]

/-- Comparisons: the arguments of the `addFlags` whose result is discarded (R546, R560, R561, R567). -/
noncomputable def thumbCompareRows (rd rs : LowReg) (hd hs : AnyReg) (imm : Byte) :
    List (Instr × Val × Val × Bool) :=
  [(.tCmpImm rd imm, fun s => s.low rd, fun _ => ~~~ imm.setWidth 32, true),
   (.tCmpReg rd rs, fun s => s.low rd, fun s => ~~~ s.low rs, true),
   (.tCmn rd rs, fun s => s.low rd, fun s => s.low rs, false),
   (.tCmpHi hd hs, fun s => s.reg hd, fun s => ~~~ s.reg hs, true)]

/-- A shift's result and the carry after it, from the value, the amount and the old carry. -/
abbrev ShiftRule := Word → Nat → Bool → Word × Bool

/-- LSL by `n` (R536, R552). -/
def lslRule : ShiftRule := fun v n c =>
  if n = 0 then (v, c) else if n ≤ 31 then (v <<< n, v.getLsbD (32 - n)) else if n = 32 then (0, v.getLsbD 0)
  else (0, false)

/-- LSR by `n` (R537, R553). -/
def lsrRule : ShiftRule := fun v n c =>
  if n = 0 then (v, c) else if n ≤ 31 then (v >>> n, v.getLsbD (n - 1)) else if n = 32 then (0, v.getLsbD 31)
  else (0, false)

/-- ASR by `n` (R538, R554). -/
def asrRule : ShiftRule := fun v n c =>
  if n = 0 then (v, c) else if n ≤ 31 then (v.sshiftRight n, v.getLsbD (n - 1))
  else (if v.getLsbD 31 then 0xFFFFFFFF else 0, v.getLsbD 31)

/-- ROR by `n` (R557). -/
def rorRule : ShiftRule := fun v n c =>
  if n = 0 then (v, c) else if n % 32 = 0 then (v, v.getLsbD 31)
  else ((v >>> (n % 32)) ||| (v <<< (32 - n % 32)), ((v >>> (n % 32)) ||| (v <<< (32 - n % 32))).getLsbD 31)

/-- The shifts: the value shifted, the amount, the rule (R536 to R538, R552 to R554, R557). An immediate amount 0 of LSR and
ASR encodes 32; a register amount is bits 7..0. -/
noncomputable def thumbShiftRows (rd rs : LowReg) (off : BitVec 5) : List (Instr × Val × (State → Nat) × ShiftRule) :=
  [(.tLslImm rd rs off, fun s => s.low rs, fun _ => off.toNat, lslRule),
   (.tLsrImm rd rs off, fun s => s.low rs, fun _ => if off = 0 then 32 else off.toNat, lsrRule),
   (.tAsrImm rd rs off, fun s => s.low rs, fun _ => if off = 0 then 32 else off.toNat, asrRule),
   (.tLslReg rd rs, fun s => s.low rd, fun s => (s.low rs).toNat % 256, lslRule),
   (.tLsrReg rd rs, fun s => s.low rd, fun s => (s.low rs).toNat % 256, lsrRule),
   (.tAsrReg rd rs, fun s => s.low rd, fun s => (s.low rs).toNat % 256, asrRule),
   (.tRorReg rd rs, fun s => s.low rd, fun s => (s.low rs).toNat % 256, rorRule)]

/-- The instructions that write one register and no flag, unless that register is 13 or 15 (R566, R568, R587, R588). -/
noncomputable def thumbMoveRows (rd : LowReg) (hd hs : AnyReg) (imm : Byte) : List (Instr × AnyReg × Val) :=
  [(.tAddHi hd hs, hd, fun s => s.reg hd + s.reg hs), (.tMovHi hd hs, hd, fun s => s.reg hs),
   (.tAddPc rd imm, lowReg rd, fun s => (s.reg 15 &&& 0xFFFFFFFC) + BitVec.ofNat 32 (4 * imm.toNat)),
   (.tAddSp rd imm, lowReg rd, fun s => s.reg 13 + BitVec.ofNat 32 (4 * imm.toNat))]

/-- The instructions that write the stack pointer and no memory (R566, R568, R589, R590). -/
noncomputable def thumbStackRows (hs : AnyReg) (imm7 : BitVec 7) : List (Instr × Val) :=
  [(.tAddHi 13 hs, fun s => s.reg 13 + s.reg hs), (.tMovHi 13 hs, fun s => s.reg hs),
   (.tAddSpImm imm7, fun s => s.reg 13 + BitVec.ofNat 32 (4 * imm7.toNat)),
   (.tSubSpImm imm7, fun s => s.reg 13 - BitVec.ofNat 32 (4 * imm7.toNat))]

/-- The stack check finds a collision when `R[13]` becomes `v` (R494). -/
def State.collides (s : State) (v : Word) : Bool :=
  s.arm.stackCheck && s.arm.variableMemTop != 0 && decide (v.toNat ≤ s.arm.variableMemTop.toNat) &&
    decide (s.params.variableOrigin.toNat ≤ v.toNat)

/-- What the stack check does when `R[13]` becomes `v`: a collision is logged once, and yields under `AbortOnMemoryFault`
(R494). -/
def State.checkedSp (s : State) (v : Word) : State :=
  if s.collides v then
    { s with
      log := .armStackCollision v s.arm.executingPC :: s.log
      arm := { s.arm with
        stackCheck := false, yield := if s.params.abortOnMemoryFault then .stackError else s.arm.yield } }
  else s

/-- The state without its variable memory. -/
def State.sansVar (s : State) : State := { s with arm := { s.arm with varMem := [] } }

/-- An illegal access: logged, and a yield under `AbortOnMemoryFault` (R490, R661). -/
def State.refusedAccess (s : State) (isRead : Bool) (a : Word) : State :=
  { s with
    log := .armBusError a isRead s.arm.executingPC (decide (a.toNat < s.params.nullLimit.toNat)) :: s.log
    arm := { s.arm with yield := if s.params.abortOnMemoryFault then .memoryAccessError else s.arm.yield } }

/-- The registers with a property, in ascending order. -/
def Ascending (regs : List AnyReg) (p : AnyReg → Prop) : Prop :=
  regs.Pairwise (fun i j => i.toNat < j.toNat) ∧ ∀ j, j ∈ regs ↔ p j

/-- A register of 0 to 7 that a list of eight names (R591). -/
def inList (list : Byte) (j : AnyReg) : Prop := j.toNat < 8 ∧ list.getLsbD j.toNat = true

/-- The registers `regs` of `s` stand in `t` at `a, a + 4, …`, every other byte of variable memory as before. -/
def StoredWords (s t : State) (a : Word) (regs : List AnyReg) : Prop :=
  (∀ (k : Nat) (h : k < regs.length), t.arm.varMem.readLE (a.toNat + 4 * k) 4 = (s.reg regs[k]).toNat) ∧
    ∀ b, b < a.toNat ∨ a.toNat + 4 * regs.length ≤ b → t.arm.varMem.read b = s.arm.varMem.read b

/-- The words of `s` at `a, a + 4, …` stand in the registers `regs` of `t`. -/
def LoadedWords (s t : State) (a : Word) (regs : List AnyReg) : Prop :=
  ∀ (k : Nat) (h : k < regs.length), t.reg regs[k] = BitVec.ofNat 32 (s.arm.varMem.readLE (a.toNat + 4 * k) 4)

/-- The stores of one register: the address, the number of bytes, the register (R571, R572, R575, R579, R581, R583,
R585; a misaligned SP is log 34). -/
noncomputable def thumbStoreRows (rd rb ro : LowReg) (off : BitVec 5) (imm : Byte) : List (Instr × Val × Nat) :=
  [(.tStrReg rd rb ro, fun s => s.low rb + s.low ro, 4), (.tStrbReg rd rb ro, fun s => s.low rb + s.low ro, 1),
   (.tStrhReg rd rb ro, fun s => s.low rb + s.low ro, 2),
   (.tStrImm rd rb off, fun s => s.low rb + BitVec.ofNat 32 (off.toNat * 4), 4),
   (.tStrbImm rd rb off, fun s => s.low rb + BitVec.ofNat 32 off.toNat, 1),
   (.tStrhImm rd rb off, fun s => s.low rb + BitVec.ofNat 32 (off.toNat * 2), 2),
   (.tStrSp rd imm, fun s => s.reg 13 + BitVec.ofNat 32 (imm.toNat * 4), 4)]

/-- The loads of one register: the address, the number of bytes, the extension (R570, R573, R574, R576 to R578, R580, R582,
R584, R586; a misaligned SP is log 34). -/
noncomputable def thumbLoadRows (rd rb ro : LowReg) (off : BitVec 5) (imm : Byte) :
    List (Instr × Val × Nat × (Word → Word)) :=
  [(.tLdrPc rd imm, fun s => (s.reg 15 &&& 0xFFFFFFFC) + BitVec.ofNat 32 (imm.toNat * 4), 4, id),
   (.tLdrReg rd rb ro, fun s => s.low rb + s.low ro, 4, id), (.tLdrbReg rd rb ro, fun s => s.low rb + s.low ro, 1, id),
   (.tLdrhReg rd rb ro, fun s => s.low rb + s.low ro, 2, id),
   (.tLdsbReg rd rb ro, fun s => s.low rb + s.low ro, 1, fun v => (v.extractLsb' 0 8).signExtend 32),
   (.tLdshReg rd rb ro, fun s => s.low rb + s.low ro, 2, fun v => (v.extractLsb' 0 16).signExtend 32),
   (.tLdrImm rd rb off, fun s => s.low rb + BitVec.ofNat 32 (off.toNat * 4), 4, id),
   (.tLdrbImm rd rb off, fun s => s.low rb + BitVec.ofNat 32 off.toNat, 1, id),
   (.tLdrhImm rd rb off, fun s => s.low rb + BitVec.ofNat 32 (off.toNat * 2), 2, id),
   (.tLdrSp rd imm, fun s => s.reg 13 + BitVec.ofNat 32 (imm.toNat * 4), 4, id)]

/-- A block of `n` words, aligned, within variable memory and not wrapping (R108, R490). -/
def State.variableWords (s : State) (a : Word) (n : Nat) : Prop :=
  a.toNat % 4 = 0 ∧ s.params.variableOrigin.toNat ≤ a.toNat ∧
    a.toNat + 4 * n ≤ s.params.variableOrigin.toNat + s.params.variableSize ∧ a.toNat + 4 * n ≤ 2 ^ 32 ∧
    (∀ k, k < n → s.params.inProgram (a + BitVec.ofNat 32 (4 * k)) 4 = false)

/-- Words written one after the other through the memory chain (R490, R591, R593). -/
def State.wroteWords (s : State) (a : Word) : List Word → State
  | [] => s
  | w :: rest => (s.armWrite a 4 w).wroteWords (a + 4) rest

/-- `n` words read one after the other through the memory chain, and the state it leaves (R490, R592, R594). -/
def State.readWords (s : State) (a : Word) : Nat → List Word × State
  | 0 => ([], s)
  | n + 1 =>
    let x := s.armRead a 4
    let y := x.2.readWords (a + 4) n
    (x.1 :: y.1, y.2)

/-- No byte of program or variable memory changes outside the `n` words at `a`. -/
def SameOutside (s t : State) (a : Word) (n : Nat) : Prop :=
  s.arm.varMem.wf = true → s.arm.progMem.wf = true → ∀ b,
    (∀ k, k < n → b < (a + BitVec.ofNat 32 (4 * k)).toNat ∨ (a + BitVec.ofNat 32 (4 * k)).toNat + 4 ≤ b) →
    t.arm.varMem.read b = s.arm.varMem.read b ∧ t.arm.progMem.read b = s.arm.progMem.read b

/-- The conditions of format 16, as R535 writes them. -/
def conditionHolds (f : ArmFlags) : List Bool :=
  [f.z, !f.z, f.c, !f.c, f.n, !f.n, f.v, !f.v, f.c && !f.z, !f.c || f.z, f.n == f.v, f.n != f.v, !f.z && f.n == f.v,
   f.z || f.n != f.v]

/-- The conditional branches in the order of their condition numbers (R535, R595). -/
noncomputable def thumbBranchRows (off : Byte) : List Instr :=
  [.tBeq off, .tBne off, .tBcs off, .tBcc off, .tBmi off, .tBpl off, .tBvs off, .tBvc off, .tBhi off, .tBls off,
   .tBge off, .tBlt off, .tBgt off, .tBle off]

/-- A PC write of `target` (R482): `R[15]` holds it with bit 0 clear and `wrotePC` is set. -/
def ArmJump (s t : State) (regs : AnyReg → Word) (target : Word) : Prop :=
  (∀ j, t.reg j = withReg 15 (target &&& 0xFFFFFFFE) regs j) ∧ t.armFlags = s.armFlags ∧
    t.sansRegs = { s with arm := { s.arm with wrotePC := true } }.sansRegs

/-! ### Playfield bits -/

/-- Bits 4, 5, 6, 7 of PF0, which the playfield holds as four bits (R43, R427). -/
def pf0Bits (v : BitVec 4) : List Bool := [v.getLsbD 0, v.getLsbD 1, v.getLsbD 2, v.getLsbD 3]

/-- Bits 0 up to 7 of a byte. -/
def byteBits (v : Byte) : List Bool :=
  [v.getLsbD 0, v.getLsbD 1, v.getLsbD 2, v.getLsbD 3, v.getLsbD 4, v.getLsbD 5, v.getLsbD 6, v.getLsbD 7]

/-! ### The functions of the shim -/

/-- One call of a StrongARM function that goes on (R626, R628, R631): the bus cycle it waits for, a read or a write at an
address; the byte it drives, if any; the byte it then holds ready for a stuffed write, if any. -/
structure ShimCall where
  reads : Bool
  addr : BusAddr
  drives : Option Byte := none
  stuffs : Option Byte := none
  deriving DecidableEq, Repr

/-- A bus cycle is the one a call waits for; a write carries any byte of the 6507's. -/
def ShimCall.awaits (c : ShimCall) (k : BusCycle) : Prop :=
  (c.reads = true ∧ k = .read c.addr) ∨ (c.reads = false ∧ ∃ v, k = .write c.addr v)

/-- The calls of a function in order from one state to another: until the cycle that a call waits for nothing changes; in it the
byte is driven, and the function goes on, with `busStuff` set as the call says (R627, R628). -/
def ShimRun (s : State) : List ShimCall → State → Prop
  | [], t => s = t
  | c :: rest, t =>
    (∀ k, ¬c.awaits k → s.shimTick k = .ok (none, s)) ∧
    ∃ u, (∀ k, c.awaits k → s.shimTick k = .ok (c.drives, u)) ∧ u.shim.busStuff = c.stuffs.isSome ∧
      (∀ b, c.stuffs = some b → u.shim.busStuffData = b) ∧ ShimRun u rest t

/-- `0x1000 | ((e + 1) & 0x0FFF)` (R626). -/
def afterExpected (e : BusAddr) : BusAddr := 0x1000 ||| ((e + 1) &&& 0x0FFF)

/-- The functions of R631 with zero-page address or data `z`, data `v`, from `expectedAddr = e`: their calls, and `expectedAddr`
after them. -/
def shimFunctionRows (z v : Byte) (e : BusAddr) : List (FnTag × List ShimCall × BusAddr) :=
  let e1 := afterExpected e
  let e2 := afterExpected e1
  [(.vcsWrite3, [{ reads := true, addr := e, drives := some 0x85 },
      { reads := true, addr := e1, drives := some z, stuffs := some v },
      { reads := false, addr := z.setWidth 13, drives := some v }], e2),
   (.vcsJmp3, [{ reads := true, addr := e, drives := some 0x4C }, { reads := true, addr := e1, drives := some 0x00 },
      { reads := true, addr := e2, drives := some 0x10 }], 0x1000),
   (.vcsLda2, [{ reads := true, addr := e, drives := some 0xA9 }, { reads := true, addr := e1, drives := some z }], e2),
   (.vcsLdx2, [{ reads := true, addr := e, drives := some 0xA2 }, { reads := true, addr := e1, drives := some z }], e2),
   (.vcsLdy2, [{ reads := true, addr := e, drives := some 0xA0 }, { reads := true, addr := e1, drives := some z }], e2),
   (.vcsSta3, [{ reads := true, addr := e, drives := some 0x85 }, { reads := true, addr := e1, drives := some z },
      { reads := false, addr := z.setWidth 13 }], e2),
   (.vcsStx3, [{ reads := true, addr := e, drives := some 0x86 }, { reads := true, addr := e1, drives := some z },
      { reads := false, addr := z.setWidth 13 }], e2),
   (.vcsSty3, [{ reads := true, addr := e, drives := some 0x84 }, { reads := true, addr := e1, drives := some z },
      { reads := false, addr := z.setWidth 13 }], e2),
   (.vcsNop2, [{ reads := true, addr := e, drives := some 0xEA }, { reads := true, addr := e1 }], e1)]

/-! ### Cycle counts -/

/-- Part of `cycleRows`. -/
def cycleRows0 (b1 b2 : Byte) : List (Instr × Nat × Nat × Bool) :=
  [(.brk, 1, 7, false), (.oraIzx b1, 2, 6, false), (.sloIzx b1, 2, 8, false), (.nopZp04 b1, 2, 3, false),
   (.oraZp b1, 2, 3, false), (.aslZp b1, 2, 5, false), (.sloZp b1, 2, 5, false), (.php, 1, 3, false),
   (.oraImm b1, 2, 2, false), (.aslAcc, 1, 2, false), (.ancImm0B b1, 2, 2, false), (.nopAbs b1 b2, 3, 4, false),
   (.oraAbs b1 b2, 3, 4, false), (.aslAbs b1 b2, 3, 6, false), (.sloAbs b1 b2, 3, 6, false),
   (.oraIzy b1, 2, 5, true), (.sloIzy b1, 2, 8, false), (.nopZpx14 b1, 2, 4, false), (.oraZpx b1, 2, 4, false),
   (.aslZpx b1, 2, 6, false), (.sloZpx b1, 2, 6, false), (.clc, 1, 2, false), (.oraAby b1 b2, 3, 4, true),
   (.nop1A, 1, 2, false), (.sloAby b1 b2, 3, 7, false), (.nopAbx1C b1 b2, 3, 4, true), (.oraAbx b1 b2, 3, 4, true),
   (.aslAbx b1 b2, 3, 7, false), (.sloAbx b1 b2, 3, 7, false), (.jsrAbs b1 b2, 2, 6, false),
   (.andIzx b1, 2, 6, false), (.rlaIzx b1, 2, 8, false), (.bitZp b1, 2, 3, false), (.andZp b1, 2, 3, false),
   (.rolZp b1, 2, 5, false), (.rlaZp b1, 2, 5, false), (.plp, 1, 4, false), (.andImm b1, 2, 2, false),
   (.rolAcc, 1, 2, false), (.ancImm2B b1, 2, 2, false), (.bitAbs b1 b2, 3, 4, false), (.andAbs b1 b2, 3, 4, false),
   (.rolAbs b1 b2, 3, 6, false), (.rlaAbs b1 b2, 3, 6, false), (.andIzy b1, 2, 5, true), (.rlaIzy b1, 2, 8, false),
   (.nopZpx34 b1, 2, 4, false), (.andZpx b1, 2, 4, false), (.rolZpx b1, 2, 6, false), (.rlaZpx b1, 2, 6, false),
   (.sec, 1, 2, false), (.andAby b1 b2, 3, 4, true), (.nop3A, 1, 2, false), (.rlaAby b1 b2, 3, 7, false),
   (.nopAbx3C b1 b2, 3, 4, true), (.andAbx b1 b2, 3, 4, true), (.rolAbx b1 b2, 3, 7, false),
   (.rlaAbx b1 b2, 3, 7, false)]

/-- Part of `cycleRows`. -/
def cycleRows1 (b1 b2 : Byte) : List (Instr × Nat × Nat × Bool) :=
  [(.rti, 1, 6, false), (.eorIzx b1, 2, 6, false), (.sreIzx b1, 2, 8, false), (.nopZp44 b1, 2, 3, false),
   (.eorZp b1, 2, 3, false), (.lsrZp b1, 2, 5, false), (.sreZp b1, 2, 5, false), (.pha, 1, 3, false),
   (.eorImm b1, 2, 2, false), (.lsrAcc, 1, 2, false), (.alrImm b1, 2, 2, false), (.jmpAbs b1 b2, 3, 3, false),
   (.eorAbs b1 b2, 3, 4, false), (.lsrAbs b1 b2, 3, 6, false), (.sreAbs b1 b2, 3, 6, false),
   (.eorIzy b1, 2, 5, true), (.sreIzy b1, 2, 8, false), (.nopZpx54 b1, 2, 4, false), (.eorZpx b1, 2, 4, false),
   (.lsrZpx b1, 2, 6, false), (.sreZpx b1, 2, 6, false), (.cli, 1, 2, false), (.eorAby b1 b2, 3, 4, true),
   (.nop5A, 1, 2, false), (.sreAby b1 b2, 3, 7, false), (.nopAbx5C b1 b2, 3, 4, true), (.eorAbx b1 b2, 3, 4, true),
   (.lsrAbx b1 b2, 3, 7, false), (.sreAbx b1 b2, 3, 7, false), (.rts, 1, 6, false), (.adcIzx b1, 2, 6, false),
   (.rraIzx b1, 2, 8, false), (.nopZp64 b1, 2, 3, false), (.adcZp b1, 2, 3, false), (.rorZp b1, 2, 5, false),
   (.rraZp b1, 2, 5, false), (.pla, 1, 4, false), (.adcImm b1, 2, 2, false), (.rorAcc, 1, 2, false),
   (.arrImm b1, 2, 2, false), (.jmpInd b1 b2, 3, 5, false), (.adcAbs b1 b2, 3, 4, false),
   (.rorAbs b1 b2, 3, 6, false), (.rraAbs b1 b2, 3, 6, false), (.adcIzy b1, 2, 5, true), (.rraIzy b1, 2, 8, false),
   (.nopZpx74 b1, 2, 4, false), (.adcZpx b1, 2, 4, false), (.rorZpx b1, 2, 6, false), (.rraZpx b1, 2, 6, false),
   (.sei, 1, 2, false), (.adcAby b1 b2, 3, 4, true), (.nop7A, 1, 2, false), (.rraAby b1 b2, 3, 7, false),
   (.nopAbx7C b1 b2, 3, 4, true), (.adcAbx b1 b2, 3, 4, true), (.rorAbx b1 b2, 3, 7, false),
   (.rraAbx b1 b2, 3, 7, false)]

/-- Part of `cycleRows`. -/
def cycleRows2 (b1 b2 : Byte) : List (Instr × Nat × Nat × Bool) :=
  [(.nopImm80 b1, 2, 2, false), (.staIzx b1, 2, 6, false), (.nopImm82 b1, 2, 2, false), (.saxIzx b1, 2, 6, false),
   (.styZp b1, 2, 3, false), (.staZp b1, 2, 3, false), (.stxZp b1, 2, 3, false), (.saxZp b1, 2, 3, false),
   (.dey, 1, 2, false), (.nopImm89 b1, 2, 2, false), (.txa, 1, 2, false), (.styAbs b1 b2, 3, 4, false),
   (.staAbs b1 b2, 3, 4, false), (.stxAbs b1 b2, 3, 4, false), (.saxAbs b1 b2, 3, 4, false),
   (.staIzy b1, 2, 6, false), (.styZpx b1, 2, 4, false), (.staZpx b1, 2, 4, false), (.stxZpy b1, 2, 4, false),
   (.saxZpy b1, 2, 4, false), (.tya, 1, 2, false), (.staAby b1 b2, 3, 5, false), (.txs, 1, 2, false),
   (.staAbx b1 b2, 3, 5, false), (.ldyImm b1, 2, 2, false), (.ldaIzx b1, 2, 6, false), (.ldxImm b1, 2, 2, false),
   (.laxIzx b1, 2, 6, false), (.ldyZp b1, 2, 3, false), (.ldaZp b1, 2, 3, false), (.ldxZp b1, 2, 3, false),
   (.laxZp b1, 2, 3, false), (.tay, 1, 2, false), (.ldaImm b1, 2, 2, false), (.tax, 1, 2, false),
   (.ldyAbs b1 b2, 3, 4, false), (.ldaAbs b1 b2, 3, 4, false), (.ldxAbs b1 b2, 3, 4, false),
   (.laxAbs b1 b2, 3, 4, false), (.ldaIzy b1, 2, 5, true), (.laxIzy b1, 2, 5, true), (.ldyZpx b1, 2, 4, false),
   (.ldaZpx b1, 2, 4, false), (.ldxZpy b1, 2, 4, false), (.laxZpy b1, 2, 4, false), (.clv, 1, 2, false),
   (.ldaAby b1 b2, 3, 4, true), (.tsx, 1, 2, false), (.lasAby b1 b2, 3, 4, true), (.ldyAbx b1 b2, 3, 4, true),
   (.ldaAbx b1 b2, 3, 4, true), (.ldxAby b1 b2, 3, 4, true), (.laxAby b1 b2, 3, 4, true), (.cpyImm b1, 2, 2, false),
   (.cmpIzx b1, 2, 6, false), (.nopImmC2 b1, 2, 2, false), (.dcpIzx b1, 2, 8, false), (.cpyZp b1, 2, 3, false)]

/-- Part of `cycleRows`. -/
def cycleRows3 (b1 b2 : Byte) : List (Instr × Nat × Nat × Bool) :=
  [(.cmpZp b1, 2, 3, false), (.decZp b1, 2, 5, false), (.dcpZp b1, 2, 5, false), (.iny, 1, 2, false),
   (.cmpImm b1, 2, 2, false), (.dex, 1, 2, false), (.sbxImm b1, 2, 2, false), (.cpyAbs b1 b2, 3, 4, false),
   (.cmpAbs b1 b2, 3, 4, false), (.decAbs b1 b2, 3, 6, false), (.dcpAbs b1 b2, 3, 6, false),
   (.cmpIzy b1, 2, 5, true), (.dcpIzy b1, 2, 8, false), (.nopZpxD4 b1, 2, 4, false), (.cmpZpx b1, 2, 4, false),
   (.decZpx b1, 2, 6, false), (.dcpZpx b1, 2, 6, false), (.cld, 1, 2, false), (.cmpAby b1 b2, 3, 4, true),
   (.nopDA, 1, 2, false), (.dcpAby b1 b2, 3, 7, false), (.nopAbxDC b1 b2, 3, 4, true), (.cmpAbx b1 b2, 3, 4, true),
   (.decAbx b1 b2, 3, 7, false), (.dcpAbx b1 b2, 3, 7, false), (.cpxImm b1, 2, 2, false), (.sbcIzx b1, 2, 6, false),
   (.nopImmE2 b1, 2, 2, false), (.iscIzx b1, 2, 8, false), (.cpxZp b1, 2, 3, false), (.sbcZp b1, 2, 3, false),
   (.incZp b1, 2, 5, false), (.iscZp b1, 2, 5, false), (.inx, 1, 2, false), (.sbcImm b1, 2, 2, false),
   (.nop, 1, 2, false), (.sbcImmEB b1, 2, 2, false), (.cpxAbs b1 b2, 3, 4, false), (.sbcAbs b1 b2, 3, 4, false),
   (.incAbs b1 b2, 3, 6, false), (.iscAbs b1 b2, 3, 6, false), (.sbcIzy b1, 2, 5, true), (.iscIzy b1, 2, 8, false),
   (.nopZpxF4 b1, 2, 4, false), (.sbcZpx b1, 2, 4, false), (.incZpx b1, 2, 6, false), (.iscZpx b1, 2, 6, false),
   (.sed, 1, 2, false), (.sbcAby b1 b2, 3, 4, true), (.nopFA, 1, 2, false), (.iscAby b1 b2, 3, 7, false),
   (.nopAbxFC b1 b2, 3, 4, true), (.sbcAbx b1 b2, 3, 4, true), (.incAbx b1 b2, 3, 7, false),
   (.iscAbx b1 b2, 3, 7, false)]

/-- For every 6507 instruction that completes, but for the branches: the bytes fetched before it executes, its cycles, and
whether a page crossed adds one (R201 to R336, R357, R363). -/
def cycleRows (b1 b2 : Byte) : List (Instr × Nat × Nat × Bool) :=
  cycleRows0 b1 b2 ++ cycleRows1 b1 b2 ++ cycleRows2 b1 b2 ++ cycleRows3 b1 b2

/-- The N, S and I cycles of the Thumb instructions whose number does not depend on the state or the list (R500). -/
noncomputable def thumbCycleRows (rd rs ro : LowReg) (hd hs : AnyReg) (off : BitVec 5) (imm3 : BitVec 3) (imm : Byte)
    (imm7 : BitVec 7) (far : BitVec 11) : List (Instr × CycleCounts) :=
  [(.tLslImm rd rs off, ⟨0, 1, 0⟩), (.tLsrImm rd rs off, ⟨0, 1, 0⟩), (.tAsrImm rd rs off, ⟨0, 1, 0⟩),
   (.tAddReg rd rs ro, ⟨0, 1, 0⟩), (.tSubReg rd rs ro, ⟨0, 1, 0⟩), (.tAddImm3 rd rs imm3, ⟨0, 1, 0⟩),
   (.tSubImm3 rd rs imm3, ⟨0, 1, 0⟩), (.tMovImm rd imm, ⟨0, 1, 0⟩), (.tCmpImm rd imm, ⟨0, 1, 0⟩),
   (.tAddImm8 rd imm, ⟨0, 1, 0⟩), (.tSubImm8 rd imm, ⟨0, 1, 0⟩), (.tAnd rd rs, ⟨0, 1, 0⟩), (.tEor rd rs, ⟨0, 1, 0⟩),
   (.tLslReg rd rs, ⟨0, 1, 1⟩), (.tLsrReg rd rs, ⟨0, 1, 1⟩), (.tAsrReg rd rs, ⟨0, 1, 1⟩), (.tAdc rd rs, ⟨0, 1, 0⟩),
   (.tSbc rd rs, ⟨0, 1, 0⟩), (.tRorReg rd rs, ⟨0, 1, 1⟩), (.tTst rd rs, ⟨0, 1, 0⟩), (.tNeg rd rs, ⟨0, 1, 0⟩),
   (.tCmpReg rd rs, ⟨0, 1, 0⟩), (.tCmn rd rs, ⟨0, 1, 0⟩), (.tOrr rd rs, ⟨0, 1, 0⟩), (.tBic rd rs, ⟨0, 1, 0⟩),
   (.tMvn rd rs, ⟨0, 1, 0⟩), (.tCmpHi hd hs, ⟨0, 1, 0⟩), (.tLdrPc rd imm, ⟨1, 1, 1⟩),
   (.tStrReg rd rs ro, ⟨2, 0, 0⟩), (.tStrbReg rd rs ro, ⟨2, 0, 0⟩), (.tLdrReg rd rs ro, ⟨1, 1, 1⟩),
   (.tLdrbReg rd rs ro, ⟨1, 1, 1⟩), (.tStrhReg rd rs ro, ⟨2, 0, 0⟩), (.tLdrhReg rd rs ro, ⟨1, 1, 1⟩),
   (.tLdsbReg rd rs ro, ⟨1, 1, 1⟩), (.tLdshReg rd rs ro, ⟨1, 1, 1⟩), (.tStrImm rd rs off, ⟨2, 0, 0⟩),
   (.tLdrImm rd rs off, ⟨1, 1, 1⟩), (.tStrbImm rd rs off, ⟨2, 0, 0⟩), (.tLdrbImm rd rs off, ⟨1, 1, 1⟩),
   (.tStrhImm rd rs off, ⟨2, 0, 0⟩), (.tLdrhImm rd rs off, ⟨1, 1, 1⟩), (.tStrSp rd imm, ⟨2, 0, 0⟩),
   (.tLdrSp rd imm, ⟨1, 1, 1⟩), (.tAddPc rd imm, ⟨0, 1, 0⟩), (.tAddSp rd imm, ⟨0, 1, 0⟩),
   (.tAddSpImm imm7, ⟨0, 1, 0⟩), (.tSubSpImm imm7, ⟨0, 1, 0⟩), (.tB far, ⟨1, 2, 0⟩), (.tBlHi far, ⟨0, 1, 0⟩),
   (.tBlLo far, ⟨1, 2, 0⟩)]

/-! ### The invariant of the block -/

/-- What holds of every sprite (R34, R401, R429). -/
structure Sprite.Valid (sp : Sprite) : Prop where
  ctr : sp.ctr.count < spriteLen
  resetPixel : sp.resetPixel < clksVisible
  hmovedPixel : sp.hmovedPixel < clksVisible

/-- What holds of the TIA: its counters are in range (R401, R433), its sprites valid, and the scheduler holds at most its
capacity of instances that have not fired (R406, R410). -/
structure Tia.Valid (t : Tia) : Prop where
  ctr : t.ctr.count < hsyncLen
  ripple : ∀ n, t.hmoveCt = some n → n ≤ 15
  sprites : ∀ s, (t.sprite s).Valid
  pending : ∀ g, ∀ e ∈ t.eventsOf g, 1 ≤ e.remaining
  capacity : t.liveEvents ≤ schedCapacity

/-- The invariant: every memory is canonical, the TIA is valid, the shim keeps R624, and at every boundary between steps
`R[15]` is two past the instruction the ARM goes on with (R480), but while no program runs (R704). -/
structure State.Inv (s : State) : Prop where
  ram : s.riot.ram.wf = true
  rom : s.mapper.rom.wf = true
  cartRam : s.mapper.cartRam.wf = true
  armImage : s.mapper.armImage.wf = true
  progMem : s.arm.progMem.wf = true
  varMem : s.arm.varMem.wf = true
  tia : s.tia.Valid
  pushed : s.shim.pushed.fn.isSome = true → s.shim.running.fn.isSome = true
  stuff : s.shim.busStuff = true → s.shim.running.fn.isSome = true
  pipeline : s.arm.yield ≠ .programEnded → s.arm.reg 15 = s.arm.executingPC + 2

end Sys2Proof.Machine
end

