-- ==== Sys2Proof/Certificates/Slice0/Obligations.lean ====
section
/-! DEFINITION. The statements for the provers. Each docstring names the rules of spec/ it formalises. -/

open Sys2Proof Sys2Proof.Machine

/-! ### Encoding -/

/-- Words written out from the encodings of R147, R131, R531 and R532, and what the decoder reads in them, in the numbering of
opcode_table.json. -/
def Obligations.SampleWords : Prop :=
  decodeTableWord 8 0x00 = some .brk ∧ decodeTableWord 24 0x0042A9 = some (.ldaImm 0x42) ∧
  decodeTableWord 24 0x3412AD = some (.ldaAbs 0x12 0x34) ∧ decodeTableWord 24 0x34129D = some (.staAbx 0x12 0x34) ∧
  decodeTableWord 24 0x000571 = some (.adcIzy 0x05) ∧ decodeTableWord 24 0x34123E = some (.rolAbx 0x12 0x34) ∧
  decodeTableWord 24 0x341220 = some (.jsrAbs 0x12 0x34) ∧ decodeTableWord 24 0x0000F0 = some (.beq 0x00) ∧
  decodeTableWord 24 0x0007C7 = some (.dcpZp 0x07) ∧ decodeTableWord 8 0x02 = some .jam02 ∧
  decodeTableWord 16 0x0153 = some (.tLslImm 3 2 5) ∧ decodeTableWord 16 0x1888 = some (.tAddReg 0 1 2) ∧
  decodeTableWord 16 0x2005 = some (.tMovImm 0 5) ∧ decodeTableWord 16 0x4374 = some (.tMul 4 6) ∧
  decodeTableWord 16 0x46C5 = some (.tMovHi 13 8) ∧ decodeTableWord 16 0x4770 = some (.tBx 14) ∧
  decodeTableWord 16 0x4A03 = some (.tLdrPc 2 3) ∧ decodeTableWord 16 0x5E8B = some (.tLdshReg 3 1 2) ∧
  decodeTableWord 16 0x6FC8 = some (.tLdrImm 0 1 31) ∧ decodeTableWord 16 0xB081 = some (.tSubSpImm 1) ∧
  decodeTableWord 16 0xB510 = some (.tPush 1 0x10) ∧ decodeTableWord 16 0xC107 = some (.tStmia 1 7) ∧
  decodeTableWord 16 0xD1FE = some (.tBne 0xFE) ∧ decodeTableWord 16 0xE7FE = some (.tB 0x7FE) ∧
  decodeTableWord 16 0xF800 = some (.tBlLo 0) ∧ decodeTableWord 16 0xE800 = none ∧ decodeTableWord 16 0x4771 = none

/-- Decode and encode agree on every 6507 instruction, whatever bytes follow it: no operand bit is lost (R131, R133). -/
def Obligations.RoundTrip6507 : Prop :=
  ∀ (i : Instr) (rest : List Byte), isThumb i = false → decodeBytes6507 (encode i ++ rest) = i

/-- Decode and encode agree on every Thumb instruction with every operand its fields hold (R531, R532). -/
def Obligations.RoundTripThumb : Prop :=
  ∀ (i : Instr) (rest : List Byte), isThumb i = true → decodeBytesThumb (encode i ++ rest) = .ok i

/-- Every word that decodes is the encoding of what it decodes to: each instruction has one encoding (R133, R533). -/
def Obligations.EncodeOfDecode : Prop :=
  (∀ b0 b1 b2 : Byte, encode (decode6507 b0 b1 b2) = [b0, b1, b2].take (opLength b0)) ∧
  ∀ (w : Half) (i : Instr), decodeThumb w = .ok i → encode i = [w.extractLsb' 0 8, w.extractLsb' 8 8]

/-- The halfwords that no row matches are exactly those R533 lists. -/
def Obligations.UndefinedHalfwords : Prop :=
  ∀ w : Half, (∃ e, decodeHalf w = .error e) ↔
    (0xB100 ≤ w.toNat ∧ w.toNat ≤ 0xB3FF) ∨ (0xB600 ≤ w.toNat ∧ w.toNat ≤ 0xBBFF) ∨
    (0xBE00 ≤ w.toNat ∧ w.toNat ≤ 0xBFFF) ∨ (0xDE00 ≤ w.toNat ∧ w.toNat ≤ 0xDEFF) ∨
    (0xE800 ≤ w.toNat ∧ w.toNat ≤ 0xEFFF) ∨ (0x4780 ≤ w.toNat ∧ w.toNat ≤ 0x47FF) ∨
    (0x4700 ≤ w.toNat ∧ w.toNat ≤ 0x47FF ∧ w.toNat % 8 ≠ 0)

/-! ### Steps -/

/-- A step runs the decoded 6507 instruction: when the bytes at the PC are RAM bytes or bytes of a `Flat` ROM, they are
fetched with the PC past them (JSR's third byte is fetched later, R367), nothing else changes, and the step is `exec` of
what they decode to, after which `T` is 0 (R24, R133, R151, R350, R352). -/
def Obligations.StepRuns6507 : Prop :=
  ∀ (s : State) (b0 b1 b2 : Byte), s.readyToFetch → s.plainCart → s.codeByte s.cpu.pc = some b0 →
    (1 < opLength b0 → s.codeByte (s.cpu.pc + 1) = some b1) →
    (2 < opLength b0 → s.codeByte (s.cpu.pc + 2) = some b2) →
    ∃ f, f.cpu.arch = ({ s.cpu with
          pc := s.cpu.pc + BitVec.ofNat 16 (if b0 = 0x20 then 2 else opLength b0) } : Cpu).arch ∧
      Quiet s f ∧
      step s = match exec (decode6507 b0 b1 b2) f with
        | .next t => .next { t with cpu := { t.cpu with t := 0 } }
        | .fault e => .fault e
        | .refused r => .refused r

/-- A step of a `Run()` in progress executes the instruction the ARM fetches: the counts of the instruction are cleared,
`R[15]` reads four past it, and the step is `exec` of the decoded halfword, then the program counter of R476, the booked
cycles and the limits of R479. An undefined halfword halts (R471, R476, R533). -/
def Obligations.StepRunsThumb : Prop :=
  ∀ s : State, s.readyForThumb →
    ∀ f, f = (s.mapArm (fun a => { a with skipBreak := false })).armFetch →
      f.2.reg 15 = s.arm.executingPC + 4 ∧ f.2.arm.instr = ⟨0, 0, 0⟩ ∧
      (s.params.fetchable s.arm.executingPC = true →
        f.1 = BitVec.ofNat 16 (s.arm.progMem.readLE s.arm.executingPC.toNat 2) ∧
        f.2 = s.mapArm (fun a => Arm.beginInstr s.arm.executingPC { a with skipBreak := false })) ∧
      (∀ e, decodeHalf f.1 = .error e → step s = .fault .unhandledOpcodeClass) ∧
      ∀ i, decodeThumb f.1 = .ok i →
        (∀ e, exec i f.2 = .fault e → step s = .fault e) ∧
        (∀ r, exec i f.2 = .refused r → step s = .refused r) ∧
        ∀ t, exec i f.2 = .next t →
          step s = run (match t.retirePC s.arm.executingPC with
            | .error e => .error e
            | .ok u =>
              if (u.mapArm (Arm.book u.params)).overLimit then .error (.fault .armLimit)
              else if u.arm.yield = .running then .ok (u.mapArm (Arm.book u.params))
              else .ok (u.mapArm (Arm.book u.params)).endRun)

/-- The steps that run no instruction: a configuration the spec refuses (R92, R435, R484); a jammed CPU (R375) and a CPU stalled
by RDY (R374), in which only the rest of the driver step happens; an interrupt request or a breakpoint that ends a `Run()` (R471;
breakpoints are a list of addresses, log 25). The rest of a driver step on a coprocessor cartridge (R507, R720): the allowance is
taken from the debt and its fraction carried; a triggered coprocessor with no function running makes one `Run()` to its yield,
whose cycles become debt. The trigger, and that a fatal yield ends the calls, are the model's (log 26); ARM time is in the units
of log 19. -/
def Obligations.StepWithoutInstruction : Prop :=
  (∀ s : State, s.params.armArch = .armv7m → step s = .refused .armV7M) ∧
  (∀ s : State, s.params.armArch = .arm7tdmi → s.params.lostMotck = true → step s = .refused .lostMotck) ∧
  (∀ s : State, s.params.armArch = .arm7tdmi → s.params.lostMotck = false → s.mapper.variant = .flat →
    s.mapper.romSize ≠ 2048 → s.mapper.romSize ≠ 4096 → step s = .refused .unsupportedMapper) ∧
  (∀ s : State, s.configRefusal = none → s.plainCart → s.cpu.resetting = false → s.cpu.jammed = true ∨ s.tia.wsync = true →
    step s = .next { s with
      riot := { s.riot with steps := s.riot.steps + 1 }
      tia := s.tia.ticks s.params 3 }) ∧
  (∀ (s u : State) (allow carry : Nat), s.configRefusal = none → s.mapper.variant = .coproc → s.arm.yield ≠ .running →
    s.cpu.resetting = false → s.cpu.jammed = true ∨ s.tia.wsync = true →
    carry < s.params.armPerCpuDen → allow * s.params.armPerCpuDen + carry = s.mapper.armCarry + s.params.armPerCpuNum →
    u = { s with
      riot := { s.riot with steps := s.riot.steps + 1 }
      tia := s.tia.ticks s.params 3
      mapper := { s.mapper with armCarry := carry, debt := s.mapper.debt - allow * s.params.unit } } →
    (s.mapper.triggered = false ∨ s.shim.running.fn.isSome = true ∨ s.arm.yield = .memoryAccessError ∨
      s.arm.yield = .stackError → step s = .next u) ∧
    (s.mapper.triggered = true → s.shim.running.fn = none → s.arm.yield ≠ .memoryAccessError →
      s.arm.yield ≠ .stackError → step s = run (State.armRun { u with mapper := { u.mapper with triggered := false } }))) ∧
  (∀ s t : State, s.armRun = .ok t → t.arm.yield ≠ .running ∧
    t.mapper = { s.mapper with debt := s.mapper.debt + t.arm.runUnits } ∧
    (t.params, t.cpu, t.bus, t.riot, t.tia) = (s.params, s.cpu, s.bus, s.riot, s.tia)) ∧
  (∀ s : State, s.configRefusal = none → s.mapper.variant = .coproc → s.arm.yield = .running →
    s.arm.interruptReq = true →
    step s = .next { s with
      arm := { s.arm with interruptReq := false, yield := .syncWithVcs }
      mapper := { s.mapper with debt := s.mapper.debt + s.arm.runUnits } }) ∧
  (∀ s : State, s.configRefusal = none → s.mapper.variant = .coproc → s.arm.yield = .running →
    s.arm.interruptReq = false → s.arm.skipBreak = false → s.params.breakpoints.contains s.arm.executingPC = true →
    step s = .next { s with
      arm := { s.arm with yield := .breakpoint }
      mapper := { s.mapper with debt := s.mapper.debt + s.arm.runUnits } })

/-! ### The bus of the 6507 -/

/-- The address ranges of R83 on the 13 bits of R81, with the RAM index and the cartridge offset; zero page and stack page are
the same RAM above `80`, and the TIA below (R84). -/
def Obligations.AddressRanges : Prop :=
  (∀ a : Addr, (busAddr a).toNat = a.toNat % 0x2000) ∧
  (∀ a : BusAddr,
    (a.getLsbD 12 = true → rangeOf a = .cartridge ∧ (cartOffset a).toNat = a.toNat % 0x1000) ∧
    (a.getLsbD 12 = false → a.getLsbD 7 = false → rangeOf a = .tia) ∧
    (a.getLsbD 12 = false → a.getLsbD 7 = true → a.getLsbD 9 = false → rangeOf a = .ram ∧ ramIndex a = a.toNat % 0x80) ∧
    (a.getLsbD 12 = false → a.getLsbD 7 = true → a.getLsbD 9 = true → rangeOf a = .riotIo)) ∧
  ∀ b : Byte, (0x80 ≤ b.toNat →
      inRam (zp b) ∧ inRam (stackAddr b) ∧ ramIndex (busAddr (zp b)) = ramIndex (busAddr (stackAddr b))) ∧
    (b.toNat < 0x80 → rangeOf (busAddr (stackAddr b)) = .tia ∧ rangeOf (busAddr (zp b)) = .tia)

/-- A read cycle that RDY does not stall, on a cartridge without a coprocessor: it takes one driver step, delivers what the
range of the address gives, leaves it in the bus latch, and changes no memory (R27, R31, R86, R89, R92, R451, R720). -/
def Obligations.ReadCycle : Prop :=
  ∀ (s : State) (a : Addr), s.plainCart → s.tia.wsync = false →
    ∃ x, cycleRead a s = .ok x ∧ x.2.cpu = { s.cpu with t := s.cpu.t + 1, dl := x.1 } ∧
      x.2.bus = { abus := a, dbus := x.1, isRead := true, lastData := x.1 } ∧ Quiet s x.2 ∧
      x.2.riot.steps = s.riot.steps + 1 ∧
      (inRam a → x.1 = s.riot.ram.read (a.toNat % 0x80)) ∧
      (a.getLsbD 12 = true → s.mapper.variant = .flat →
        x.1 = s.mapper.rom.read (a.toNat % 0x1000 % s.mapper.romSize)) ∧
      (rangeOf (busAddr a) = .tia →
        (x.1.getLsbD 7, x.1.getLsbD 6) = s.tia.readBits s.riot.steps (a.setWidth 4) ∧
        ∀ j, j < 6 → x.1.getLsbD j =
          (if s.params.tiaUndriven = .lastData then s.bus.lastData else 0x00).getLsbD j)

/-- A write cycle, which RDY never stalls (R374), on a cartridge without a coprocessor: it takes one driver step; a RAM byte is
replaced and no other; a TIA register is written with the ticks of R721 about it; else the TIA only ticks. A read cycle after it
finds the byte in every mirror of its RAM cell, and the old bytes elsewhere (R83, R84, R86, R416, R720). -/
def Obligations.WriteCycle : Prop :=
  ∀ (s : State) (a : Addr) (v : Byte), s.plainCart → s.room 1 → s.riot.ram.wf = true →
    ∃ t, cycleWrite a v s = .ok t ∧ t.cpu = { s.cpu with t := s.cpu.t + 1 } ∧ Outside s t ∧
      t.bus = { abus := a, dbus := v, isRead := false, lastData := v } ∧ t.riot.steps = s.riot.steps + 1 ∧
      (∀ j, t.riot.ram.read j = storeRam a v s.riot.ram.read j) ∧
      (rangeOf (busAddr a) = .tia → TiaWritten s.params a v s.tia t.tia) ∧
      (rangeOf (busAddr a) ≠ .tia → t.tia = s.tia.ticks s.params 3) ∧
      ∀ b : Addr, inRam a → inRam b →
        ∃ x, cycleRead b t = .ok x ∧ x.1 = if ramIndex (busAddr a) = ramIndex (busAddr b) then v else s.ramByte b

/-- The effective addresses of R137 to R144 and R96, the cycles spent on them and the page-cross flag: zero-page indices
wrap in page 0, absolute indices modulo 65536, pointers are read from page 0; the modes change no memory. -/
def Obligations.EffectiveAddresses : Prop :=
  ∀ (s : State) (b1 b2 : Byte), s.plainCart →
    (∃ e, eaZp b1 s = .ok e ∧ e.1.toNat = b1.toNat ∧ Quiet s e.2 ∧ e.2.cpu.t = s.cpu.t) ∧
    (∃ e, eaZpx b1 s = .ok e ∧ e.1.toNat = (b1.toNat + s.cpu.x.toNat) % 256 ∧ Quiet s e.2 ∧ e.2.cpu.t = s.cpu.t + 1) ∧
    (∃ e, eaZpy b1 s = .ok e ∧ e.1.toNat = (b1.toNat + s.cpu.y.toNat) % 256 ∧ Quiet s e.2 ∧ e.2.cpu.t = s.cpu.t + 1) ∧
    (∃ e, eaAbs b1 b2 s = .ok e ∧ e.1.toNat = b1.toNat + 256 * b2.toNat ∧ Quiet s e.2 ∧ e.2.cpu.t = s.cpu.t) ∧
    (∀ ea idx, (ea, idx) ∈ [(eaAbxRead b1 b2, s.cpu.x), (eaAbyRead b1 b2, s.cpu.y)] →
      ∃ e, ea s = .ok e ∧ e.1.toNat = (b1.toNat + 256 * b2.toNat + idx.toNat) % 65536 ∧ Quiet s e.2 ∧
        e.2.cpu.fix = decide (256 ≤ b1.toNat + idx.toNat) ∧ e.2.cpu.t = s.cpu.t + e.2.cpu.fix.toNat) ∧
    (∀ ea idx, (ea, idx) ∈ [(eaAbxFixed b1 b2, s.cpu.x), (eaAbyFixed b1 b2, s.cpu.y)] →
      ∃ e, ea s = .ok e ∧ e.1.toNat = (b1.toNat + 256 * b2.toNat + idx.toNat) % 65536 ∧ Quiet s e.2 ∧
        e.2.cpu.fix = decide (256 ≤ b1.toNat + idx.toNat) ∧ e.2.cpu.t = s.cpu.t + 1) ∧
    (∃ e, eaIzx b1 s = .ok e ∧ Quiet s e.2 ∧ e.2.cpu.t = s.cpu.t + 3 ∧
      ∀ p : Byte, p = b1 + s.cpu.x → inRam (zp p) → inRam (zp (p + 1)) →
        e.1.toNat = (s.ramByte (zp p)).toNat + 256 * (s.ramByte (zp (p + 1))).toNat) ∧
    (∃ e, eaIzyRead b1 s = .ok e ∧ Quiet s e.2 ∧ e.2.cpu.t = s.cpu.t + 2 + e.2.cpu.fix.toNat ∧
      (inRam (zp b1) → inRam (zp (b1 + 1)) →
        e.1.toNat = ((s.ramByte (zp b1)).toNat + 256 * (s.ramByte (zp (b1 + 1))).toNat + s.cpu.y.toNat) % 65536 ∧
        e.2.cpu.fix = decide (256 ≤ (s.ramByte (zp b1)).toNat + s.cpu.y.toNat))) ∧
    (∃ e, eaIzyFixed b1 s = .ok e ∧ Quiet s e.2 ∧ e.2.cpu.t = s.cpu.t + 3 ∧
      (inRam (zp b1) → inRam (zp (b1 + 1)) →
        e.1.toNat = ((s.ramByte (zp b1)).toNat + 256 * (s.ramByte (zp (b1 + 1))).toNat + s.cpu.y.toNat) % 65536))

/-! ### The instructions of the 6507 -/

/-- Every form of LDA, LDX, LDY, AND, ORA, EOR, BIT, CMP, CPX, CPY: `M`, the register and the flags as R171 to R173, R207 to
R214 write them; no other register or flag and no memory changes. -/
def Obligations.LoadsLogicCompares : Prop :=
  ∀ (b1 b2 : Byte) (s : State), s.plainCart →
    ∀ r ∈ loadRows b1 b2 ++ logicRows b1 b2 ++ compareRows b1 b2, ReadsAs s r.1 r.2.1 r.2.2

/-- Every form of ADC and SBC: A and N, V, Z, C as R201 to R206 compute them, by the D flag; nothing else changes. -/
def Obligations.Sums : Prop :=
  ∀ (b1 b2 : Byte) (s : State), s.plainCart → ∀ r ∈ sumRows b1 b2, ReadsAs s r.1 r.2.1 r.2.2

/-- The stable undocumented read instructions (R317, R320, R321, R323, R334 to R336), and ARR, which runs with D clear and is
refused with D set (R322). -/
def Obligations.UndocumentedReads : Prop :=
  ∀ (b1 b2 : Byte) (s : State), s.runsUndoc →
    (s.plainCart → ∀ r ∈ undocReadRows b1 b2, ReadsAs s r.1 r.2.1 r.2.2) ∧
    (s.cpu.d = false → RegistersOnly s (.arrImm b1) (arring b1 s.cpu)) ∧
    (s.cpu.d = true → exec (.arrImm b1) s = .refused .arrDecimal)

/-- Every form of STA, STX, STY (R174 to R176) and, where undocumented opcodes run, of SAX (R316). -/
def Obligations.Stores : Prop :=
  ∀ (b1 b2 : Byte) (s : State), s.plainCart → s.room 1 → s.riot.ram.wf = true →
    (∀ r ∈ storeRows b1 b2, StoresAs s r.1 r.2.1 (r.2.2 s.cpu)) ∧
    (s.runsUndoc → ∀ r ∈ undocStoreRows b1 b2, StoresAs s r.1 r.2.1 (r.2.2 s.cpu))

/-- Every memory form of ASL, LSR, ROL, ROR, INC, DEC: one read, two writes at the effective address, then C, N and Z
(R230 to R236, R361); and of SLO, RLA, SRE, RRA, DCP, ISC, where undocumented opcodes run: the read-modify-write, then the
operation on the accumulator with its result (R311 to R315, R318, R319). -/
def Obligations.ReadModifyWrites : Prop :=
  ∀ (b1 b2 : Byte) (s : State), s.plainCart → s.room 2 → s.riot.ram.wf = true →
    (∀ r ∈ rmwRows b1 b2, ModifiesAs s r.1 r.2.1 r.2.2.1 r.2.2.2) ∧
    (s.runsUndoc → ∀ r ∈ undocRmwRows b1 b2, ModifiesAs s r.1 r.2.1 r.2.2.1 r.2.2.2)

/-- The one-byte instructions on registers and flags, the accumulator shifts, and the one-byte undocumented NOPs (R177 to R182,
R231 to R240, R274, R279 to R285, R336). -/
def Obligations.RegisterInstructions : Prop :=
  ∀ s : State, s.plainCart →
    (∀ r ∈ impliedRows, RegistersOnly s r.1 (r.2 s.cpu)) ∧
    (∀ r ∈ shiftARows,
      RegistersOnly s r.1 { intoA (r.2 s.cpu.a s.cpu.c).1 s.cpu with c := (r.2 s.cpu.a s.cpu.c).2 }) ∧
    (s.runsUndoc → ∀ i ∈ undocNopRows, RegistersOnly s i s.cpu)

/-- The branches: the PC, which stands after the branch, moves by the signed offset when the condition holds and stays else
(R145, R265 to R273). -/
def Obligations.Branches : Prop :=
  ∀ (b1 : Byte) (s : State), s.plainCart → ∀ r ∈ branchRows b1,
    RegistersOnly s r.1 { s.cpu with
      pc := if r.2 s.cpu then BitVec.ofInt 16 (s.cpu.pc.toNat + b1.toInt) else s.cpu.pc }

/-- JMP: the absolute form changes the PC alone; the indirect form reads its target at the pointer and at the pointer with its
low byte incremented without carry (R96, R146, R260). -/
def Obligations.Jumps : Prop :=
  ∀ (b1 b2 : Byte) (s : State),
    exec (.jmpAbs b1 b2) s = .next { s with cpu := { s.cpu with pc := b2 ++ b1 } } ∧
    (s.plainCart → ∃ lo hi, RegistersOnly s (.jmpInd b1 b2) { s.cpu with pc := hi ++ lo } ∧
      (∀ v, s.codeByte (b2 ++ b1) = some v → lo = v) ∧ (∀ v, s.codeByte (b2 ++ (b1 + 1)) = some v → hi = v))

/-- JSR: on entry the PC stands at the third byte, whose address is pushed, high byte first; that byte is read after the
pushes (R261, R367). -/
def Obligations.SubroutineCall : Prop :=
  ∀ (b1 b2 : Byte) (s : State), s.plainCart → s.room 2 → s.riot.ram.wf = true →
    ∃ t hi, exec (.jsrAbs b1 b2) s = .next t ∧
      t.cpu.arch = ({ s.cpu with sp := s.cpu.sp - 2, pc := hi ++ b1 } : Cpu).arch ∧
      (∀ v, t.codeByte s.cpu.pc = some v → hi = v) ∧
      Pushed s t [(stackAddr s.cpu.sp, s.cpu.pc.extractLsb' 8 8), (stackAddr (s.cpu.sp - 1), s.cpu.pc.extractLsb' 0 8)]

/-- RTS: the PC is pulled, low byte first, and is one more (R262, R368). -/
def Obligations.SubroutineReturn : Prop :=
  ∀ s : State, s.plainCart → ∃ lo hi,
    RegistersOnly s .rts { s.cpu with sp := s.cpu.sp + 2, pc := (hi ++ lo) + 1 } ∧
    (inRam (stackAddr (s.cpu.sp + 1)) → lo = s.ramByte (stackAddr (s.cpu.sp + 1))) ∧
    (inRam (stackAddr (s.cpu.sp + 2)) → hi = s.ramByte (stackAddr (s.cpu.sp + 2)))

/-- BRK takes the trap: on entry the PC stands at the padding byte; the address after it, then the status with B and bit 5 set,
are pushed; I is set, D stays; the PC comes from `0xFFFE` (R26, R264, R653). -/
def Obligations.BreakTrap : Prop :=
  ∀ s : State, s.plainCart → s.room 3 → s.riot.ram.wf = true →
    ∃ t lo hi, exec .brk s = .next t ∧
      t.cpu.arch = ({ s.cpu with sp := s.cpu.sp - 3, i := true, pc := hi ++ lo } : Cpu).arch ∧
      (∀ v, s.codeByte 0xFFFE = some v → lo = v) ∧ (∀ v, s.codeByte 0xFFFF = some v → hi = v) ∧
      Pushed s t [(stackAddr s.cpu.sp, (s.cpu.pc + 1).extractLsb' 8 8),
        (stackAddr (s.cpu.sp - 1), (s.cpu.pc + 1).extractLsb' 0 8),
        (stackAddr (s.cpu.sp - 2),
          BitVec.ofNat 8 (128 * s.cpu.n.toNat + 64 * s.cpu.v.toNat + 32 + 16 + 8 * s.cpu.d.toNat + 4 * s.cpu.i.toNat +
            2 * s.cpu.z.toNat + s.cpu.c.toNat))]

/-- RTI: the flags, then the PC, are pulled; bits 5 and 4 of the status are ignored; nothing is added to the PC (R263, R654). -/
def Obligations.TrapReturn : Prop :=
  ∀ s : State, s.plainCart → ∃ p lo hi,
    RegistersOnly s .rti { flagsFrom p s.cpu with sp := s.cpu.sp + 3, pc := hi ++ lo } ∧
    (inRam (stackAddr (s.cpu.sp + 1)) → p = s.ramByte (stackAddr (s.cpu.sp + 1))) ∧
    (inRam (stackAddr (s.cpu.sp + 2)) → lo = s.ramByte (stackAddr (s.cpu.sp + 2))) ∧
    (inRam (stackAddr (s.cpu.sp + 3)) → hi = s.ramByte (stackAddr (s.cpu.sp + 3)))

/-- PHA and PHP push and decrement SP, wherever the stack address leads, a TIA register among them; PLA and PLP increment SP and
pull (R23, R26, R275 to R278). -/
def Obligations.StackInstructions : Prop :=
  ∀ s : State, s.plainCart →
    (∀ r ∈ [(Instr.pha, s.cpu.a), (Instr.php, s.cpu.status)], s.room 1 → s.riot.ram.wf = true →
      ∃ m t, exec r.1 s = .next t ∧ t.cpu.arch = ({ s.cpu with sp := s.cpu.sp - 1 } : Cpu).arch ∧
        Pushed s t [(stackAddr s.cpu.sp, r.2)] ∧ Quiet s m ∧
        (rangeOf (busAddr (stackAddr s.cpu.sp)) = .tia →
          TiaWritten s.params (stackAddr s.cpu.sp) r.2 m.tia t.tia)) ∧
    ∀ r ∈ [(Instr.pla, intoA), (Instr.plp, flagsFrom)], ∃ v,
      RegistersOnly s r.1 { r.2 v s.cpu with sp := s.cpu.sp + 1 } ∧
      (inRam (stackAddr (s.cpu.sp + 1)) → v = s.ramByte (stackAddr (s.cpu.sp + 1)))

/-- The JAM opcodes set `jammed` and nothing else (R341). -/
def Obligations.Jams : Prop :=
  ∀ s : State, s.runsUndoc → ∀ i ∈ jamRows, exec i s = .next { s with cpu := { s.cpu with jammed := true } }

/-- The unstable opcodes are refused (R340); with `UNDOC_POLICY = refuse_all` every one of the 105 undocumented opcodes is, the
stable ones and the JAMs by the name of the policy (R310). -/
def Obligations.RefusedOpcodes : Prop :=
  ∀ (b1 b2 : Byte) (s : State),
    (∀ i ∈ unstableRows b1 b2, exec i s = .refused .unstableOpcode) ∧
    (s.params.undocPolicy = .refuseAll → (undocRows b1 b2).length = 105 ∧
      ∀ i ∈ undocRows b1 b2, exec i s = .refused .undocumentedPolicy ∨
        i ∈ unstableRows b1 b2 ∧ exec i s = .refused .unstableOpcode)

/-- What the sums compute: in binary mode the exact sum or difference with its carry and its signed overflow (R202, R205); in
decimal mode, for all operands, the accumulator and the four flags as R203 and R206 write them: after an addition N and V come
from the intermediate sum and Z from the binary sum, after a subtraction all are the binary flags; for operands that are decimal
digits the result is the decimal sum or difference. -/
def Obligations.SumValues : Prop :=
  ∀ (a m : Byte) (c : Bool),
    ((adcBinary a m c).r.toNat + 256 * (adcBinary a m c).c.toNat = a.toNat + m.toNat + c.toNat ∧
      ((adcBinary a m c).v = true ↔ a.toInt + m.toInt + c.toNat < -128 ∨ 127 < a.toInt + m.toInt + c.toNat) ∧
      (adcBinary a m c).n = (adcBinary a m c).r.getLsbD 7 ∧ ((adcBinary a m c).z = true ↔ (adcBinary a m c).r = 0)) ∧
    ((sbcBinary a m c).r.toNat + m.toNat + 1 + 256 * (sbcBinary a m c).c.toNat = a.toNat + c.toNat + 256 ∧
      sbcBinary a m c = adcBinary a (~~~ m) c) ∧
    (∀ lo t : Nat, lo = a.toNat % 16 + m.toNat % 16 + c.toNat →
      t = 16 * (a.toNat / 16) + 16 * (m.toNat / 16) + (if 10 ≤ lo then (lo + 6) % 16 + 16 else lo) →
      (adcDecimal a m c).n = t.testBit 7 ∧
      (adcDecimal a m c).v = (a.getLsbD 7 != t.testBit 7 && m.getLsbD 7 != t.testBit 7) ∧
      ((adcDecimal a m c).z = true ↔ (a.toNat + m.toNat + c.toNat) % 256 = 0) ∧
      ((adcDecimal a m c).c = true ↔ 160 ≤ t) ∧
      (adcDecimal a m c).r.toNat = (if 160 ≤ t then t + 96 else t) % 256) ∧
    (isBcd a → isBcd m → isBcd (adcDecimal a m c).r ∧
      bcdValue (adcDecimal a m c).r + 100 * (adcDecimal a m c).c.toNat = bcdValue a + bcdValue m + c.toNat) ∧
    sbcDecimal a m c = { sbcBinary a m c with r := (sbcDecimal a m c).r } ∧
    (∀ lo t : Int, lo = (a.toNat % 16 : Nat) - (m.toNat % 16 : Nat) + c.toNat - 1 →
      t = 16 * (a.toNat / 16 : Nat) - 16 * (m.toNat / 16 : Nat) + (if lo < 0 then (lo - 6) % 16 - 16 else lo) →
      ((sbcDecimal a m c).r.toNat : Int) = (if t < 0 then t - 96 else t) % 256) ∧
    (isBcd a → isBcd m → isBcd (sbcDecimal a m c).r ∧
      bcdValue (sbcDecimal a m c).r + bcdValue m + 1 + 100 * (sbcDecimal a m c).c.toNat =
        bcdValue a + c.toNat + 100)

/-- The status byte: the bits of a push, and what a pull copies (R26). -/
def Obligations.StatusByte : Prop :=
  ∀ (k : Cpu) (p : Byte),
    (k.status.getLsbD 7 = k.n ∧ k.status.getLsbD 6 = k.v ∧ k.status.getLsbD 5 = true ∧ k.status.getLsbD 4 = true ∧
      k.status.getLsbD 3 = k.d ∧ k.status.getLsbD 2 = k.i ∧ k.status.getLsbD 1 = k.z ∧ k.status.getLsbD 0 = k.c) ∧
    k.withStatus p = { k with
      n := p.getLsbD 7, v := p.getLsbD 6, d := p.getLsbD 3, i := p.getLsbD 2, z := p.getLsbD 1, c := p.getLsbD 0 }

/-- The cycle counts: an instruction that completes has made, with its fetches, the bus cycles of its row, one more where its
row says so and a page is crossed; a branch makes 2, 3 taken, 4 taken to another page (R357, R363, R366). -/
def Obligations.CpuCycles : Prop :=
  ∀ (b1 b2 : Byte) (s t : State), s.plainCart →
    (∀ r ∈ cycleRows b1 b2, exec r.1 s = .next t →
      t.cpu.t + r.2.1 = s.cpu.t + r.2.2.1 + (if r.2.2.2 = true ∧ t.cpu.fix = true then 1 else 0)) ∧
    (∀ r ∈ branchRows b1, exec r.1 s = .next t →
      t.cpu.t = s.cpu.t + (if r.2 s.cpu then
        (if t.cpu.pc.extractLsb' 8 8 = s.cpu.pc.extractLsb' 8 8 then 1 else 2) else 0))

/-- Subroutine linkage: whatever the subroutine does, if it comes to its RTS with SP as JSR left it and the two pushed bytes in
place, RTS goes to the byte after the JSR with SP as it was before (R261, R262; the stack in RAM, R84). -/
def Obligations.SubroutineLinkage : Prop :=
  ∀ (s t m : State) (b1 b2 : Byte), s.plainCart → m.plainCart → s.riot.ram.wf = true → s.room 2 → 0x81 ≤ s.cpu.sp.toNat →
    exec (.jsrAbs b1 b2) s = .next t → m.cpu.sp = t.cpu.sp →
    (∀ a, a = stackAddr s.cpu.sp ∨ a = stackAddr (s.cpu.sp - 1) → m.ramByte a = t.ramByte a) →
    RegistersOnly m .rts { m.cpu with sp := s.cpu.sp, pc := s.cpu.pc + 1 }

/-- Trap linkage: a handler that comes to its RTI with SP as BRK left it and the three pushed bytes in place returns to two past
the BRK opcode with SP and all six flags as they were before (R26, R263, R264; the stack in RAM, R84). -/
def Obligations.TrapLinkage : Prop :=
  ∀ s t m : State, s.plainCart → m.plainCart → s.riot.ram.wf = true → s.room 3 → 0x82 ≤ s.cpu.sp.toNat →
    exec .brk s = .next t → m.cpu.sp = t.cpu.sp →
    (∀ k : Byte, k.toNat < 3 → m.ramByte (stackAddr (s.cpu.sp - k)) = t.ramByte (stackAddr (s.cpu.sp - k))) →
    RegistersOnly m .rti { m.cpu with
      sp := s.cpu.sp, pc := s.cpu.pc + 1, n := s.cpu.n, v := s.cpu.v, d := s.cpu.d, i := s.cpu.i, z := s.cpu.z, c := s.cpu.c }

/-! ### The TIA -/

/-- One colour clock in which no scheduled event fires: `hclk` advances modulo 228 and the decodes of R417 act on its new value,
the longer blank and the comb of a line with HMOVE among them; the signal, which the model keeps (log 23), shows the
blanks (R404, R416, R417, R418, R442, R444). -/
def Obligations.LineClock : Prop :=
  ∀ (p : Params) (t u : Tia), t.ctr.count < 57 → (∀ g, ∀ e ∈ t.eventsOf g, 1 < e.remaining) → u = t.tick p →
    u.hclk = (t.hclk + 1) % 228 ∧
    u.hblank = (if u.hclk = 0 then true
      else if u.hclk = (if t.hmoveLatch then 76 else 68) then false else t.hblank) ∧
    u.hsyncSig = (if u.hclk = 16 then true else if u.hclk = 32 then false else t.hsyncSig) ∧
    u.wsync = (if u.hclk = 0 then false else t.wsync) ∧
    u.hmoveLatch = (if u.hclk = 0 then false else t.hmoveLatch) ∧
    u.scanline = (if u.hclk = 0 then t.scanline + 1 else t.scanline) ∧
    (u.hclk = 76 → t.hmoveLatch = true →
      ∀ s, (u.sprite s).hmovedPixel = ((t.sprite s).hmovedPixel + 8) % 160) ∧
    u.signal.hblank = u.hblank ∧ u.signal.vblank = u.vblank ∧ u.signal.hsync = u.hsyncSig ∧
    (u.hblank = true ∨ u.vblank = true → u.signal.colour = none)

/-- The scheduler: an event of delay `n` joins its group, is live for `n - 1` ticks and gone after `n`; an event of delay 0
acts at once; a lone event with one tick to go fires in `tickAll()`; a 65th live event halts (R406 to R408,
R410, R416). -/
def Obligations.Scheduler : Prop :=
  ∀ (p : Params) (t : Tia) (g : Group) (pl : Payload),
    Tia.schedule g 0 pl t = .ok (t.applyPayload pl) ∧
    (∀ n, 1 ≤ n → 64 ≤ t.liveEvents → Tia.schedule g n pl t = .error (.fault .schedulerFull)) ∧
    (∀ n, 1 ≤ n → t.liveEvents < 64 → ∃ u, Tia.schedule g n pl t = .ok u ∧
      ∀ h, u.eventsOf h = if h = g then t.eventsOf g ++ [⟨n, pl⟩] else t.eventsOf h) ∧
    ((∀ h, ∀ e ∈ t.eventsOf h, 1 ≤ e.remaining) → ∀ k h,
      (t.ticks p k).eventsOf h =
        ((t.eventsOf h).filter (fun e => k < e.remaining)).map (fun e => { e with remaining := e.remaining - k })) ∧
    (t.eventsOf g = [⟨1, pl⟩] → (∀ h, h ≠ g → t.eventsOf h = []) → t.tickAll = (t.setEvents g []).applyPayload pl)

/-- The position strobes RESP0, RESP1, RESM0, RESM1, RESBL: the pixel bookkeeping, the delay by blank and HMOVE, and the event
that resets the position counter, with the draw in progress untouched (R428, R429; the delays of R441). -/
def Obligations.PositionStrobes : Prop :=
  (({} : TiaDelays).resetVisible, ({} : TiaDelays).resetHblank, ({} : TiaDelays).resetHblankHmove) = (4, 2, 3) ∧
  ∀ (p : Params) (t : Tia) (v : Byte), p.lateRespxHeat = false → t.liveEvents < 64 →
    ∀ r ∈ [((0x10 : BitVec 6), SpriteId.p0), (0x11, .p1), (0x12, .m0), (0x13, .m1), (0x14, .bl)],
      ∀ d adj : Nat,
        d = (if t.hblank then (if t.hmoveLatch then p.delays.resetHblankHmove else p.delays.resetHblank)
          else p.delays.resetVisible) →
        adj = (if r.2 = .p0 ∧ (t.p0.nusiz = 5 ∨ t.p0.nusiz = 7) ∨ r.2 = .p1 ∧ (t.p1.nusiz = 5 ∨ t.p1.nusiz = 7) then 1
          else 0) →
        ∃ u, t.write p r.1 v = .ok u ∧
          ((u.sprite r.2).resetPixel : Int) = ((t.hclk : Int) - (if t.hblank then 0 else 68) + d + adj) % 160 ∧
          (u.sprite r.2).hmovedPixel = (u.sprite r.2).resetPixel ∧
          (u.sprite r.2).phase = (t.sprite r.2).phase ∧ (u.sprite r.2).scan = (t.sprite r.2).scan ∧
          (d = 0 → (u.sprite r.2).ctr = ⟨0, .risingPhi1⟩) ∧
          (0 < d → (u.sprite r.2).ctr = (t.sprite r.2).ctr ∧
            u.eventsOf (.sprite r.2) = t.eventsOf (.sprite r.2) ++ [⟨d, .resetPos r.2⟩])

/-- The HMOVE ripple on a clock of `RisingPhi2` inside the blank, no event firing: the ripple counter counts down to off; a
sprite whose motion value matches it stops moving; one that still moves gets a motion clock and its pixel moves left (R433). A
missile locked to its player may also be reset (R426). -/
def Obligations.HmoveRipple : Prop :=
  ∀ (p : Params) (t u : Tia) (ct : Nat), t.hmoveCt = some ct → t.ctr.pclk = .fallingPhi1 → t.hblank = true →
    (∀ g, ∀ e ∈ t.eventsOf g, 1 < e.remaining) → u = t.tick p →
    u.hmoveCt = (if ct = 0 then none else some (ct - 1)) ∧
    ∀ s, ∀ go : Bool, go = ((t.sprite s).moreHmove && ((t.sprite s).hm ^^^ 7).toNat != ct) →
      (u.sprite s).moreHmove = go ∧
      (u.sprite s).hmovedPixel = (if go then ((t.sprite s).hmovedPixel + 159) % 160 else (t.sprite s).hmovedPixel) ∧
      ((s = .m0 → t.m0.resetToPlayer = false) → (s = .m1 → t.m1.resetToPlayer = false) →
        (u.sprite s).ctr = if go then (t.sprite s).ctr.tick 40 else (t.sprite s).ctr)

/-- What each write register but the position strobes does (PositionStrobes states those), with the default delays of R441, under
which it acts at once; numbers from `2D` on are ignored (R419, R430, R432, R437, R438, R439, R445, R450). -/
def Obligations.WriteRegisters : Prop :=
  ∀ (p : Params) (t : Tia) (v : Byte), p.delays = {} →
    t.write p 0x00 v = .ok { t with
      vsync := v.getLsbD 1, scanline := if t.vsync = true ∧ v.getLsbD 1 = false then 0 else t.scanline } ∧
    t.write p 0x01 v = .ok { t with vblank := v.getLsbD 1, inptLatch := v.getLsbD 6, inptDump := v.getLsbD 7 } ∧
    t.write p 0x02 v = .ok { t with wsync := true } ∧
    t.write p 0x03 v = .ok { t with ctr := ⟨0, .risingPhi1⟩, hblank := true, wsync := false, hmoveLatch := false } ∧
    t.write p 0x04 v = .ok { t with
      p0 := playerNusiz v t.p0, m0 := { t.m0 with copies := v.extractLsb' 0 3, size := v.extractLsb' 4 2 } } ∧
    t.write p 0x05 v = .ok { t with
      p1 := playerNusiz v t.p1, m1 := { t.m1 with copies := v.extractLsb' 0 3, size := v.extractLsb' 4 2 } } ∧
    t.write p 0x06 v = .ok { t with p0 := { t.p0 with colour := v.extractLsb' 1 7 } } ∧
    t.write p 0x07 v = .ok { t with p1 := { t.p1 with colour := v.extractLsb' 1 7 } } ∧
    t.write p 0x08 v = .ok { t with pf := { t.pf with colupf := v.extractLsb' 1 7 } } ∧
    t.write p 0x09 v = .ok { t with pf := { t.pf with colubk := v.extractLsb' 1 7 } } ∧
    t.write p 0x0A v = .ok { t with
      pf := { t.pf with reflect := v.getLsbD 0, score := v.getLsbD 1, priority := v.getLsbD 2 }
      bl := { t.bl with size := v.extractLsb' 4 2 } } ∧
    t.write p 0x0B v = .ok { t with p0 := { t.p0 with reflect := v.getLsbD 3 } } ∧
    t.write p 0x0C v = .ok { t with p1 := { t.p1 with reflect := v.getLsbD 3 } } ∧
    t.write p 0x0D v = .ok { t with pf := { t.pf with pf0 := v.extractLsb' 4 4 } } ∧
    t.write p 0x0E v = .ok { t with pf := { t.pf with pf1 := v } } ∧
    t.write p 0x0F v = .ok { t with pf := { t.pf with pf2 := v } } ∧
    t.write p 0x15 v = .ok { t with audio := { t.audio with audc0 := v.extractLsb' 0 4 } } ∧
    t.write p 0x16 v = .ok { t with audio := { t.audio with audc1 := v.extractLsb' 0 4 } } ∧
    t.write p 0x17 v = .ok { t with audio := { t.audio with audf0 := v.extractLsb' 0 5 } } ∧
    t.write p 0x18 v = .ok { t with audio := { t.audio with audf1 := v.extractLsb' 0 5 } } ∧
    t.write p 0x19 v = .ok { t with audio := { t.audio with audv0 := v.extractLsb' 0 4 } } ∧
    t.write p 0x1A v = .ok { t with audio := { t.audio with audv1 := v.extractLsb' 0 4 } } ∧
    t.write p 0x1B v = .ok { t with
      p0 := { t.p0 with gfxNew := v }, p1 := { t.p1 with gfxOld := t.p1.gfxNew } } ∧
    t.write p 0x1C v = .ok { t with
      p1 := { t.p1 with gfxNew := v }, p0 := { t.p0 with gfxOld := t.p0.gfxNew }
      bl := { t.bl with enableOld := t.bl.enableNew } } ∧
    t.write p 0x1D v = .ok { t with m0 := { t.m0 with enable := v.getLsbD 1 } } ∧
    t.write p 0x1E v = .ok { t with m1 := { t.m1 with enable := v.getLsbD 1 } } ∧
    t.write p 0x1F v = .ok { t with bl := { t.bl with enableNew := v.getLsbD 1 } } ∧
    t.write p 0x20 v = .ok { t with p0 := { t.p0 with sprite := { t.p0.sprite with hm := v.extractLsb' 4 4 } } } ∧
    t.write p 0x21 v = .ok { t with p1 := { t.p1 with sprite := { t.p1.sprite with hm := v.extractLsb' 4 4 } } } ∧
    t.write p 0x22 v = .ok { t with m0 := { t.m0 with sprite := { t.m0.sprite with hm := v.extractLsb' 4 4 } } } ∧
    t.write p 0x23 v = .ok { t with m1 := { t.m1 with sprite := { t.m1.sprite with hm := v.extractLsb' 4 4 } } } ∧
    t.write p 0x24 v = .ok { t with bl := { t.bl with sprite := { t.bl.sprite with hm := v.extractLsb' 4 4 } } } ∧
    t.write p 0x25 v = .ok { t with p0 := { t.p0 with vdel := v.getLsbD 0 } } ∧
    t.write p 0x26 v = .ok { t with p1 := { t.p1 with vdel := v.getLsbD 0 } } ∧
    t.write p 0x27 v = .ok { t with bl := { t.bl with vdel := v.getLsbD 0 } } ∧
    t.write p 0x28 v = .ok { t with m0 := { t.m0 with resetToPlayer := v.getLsbD 1 } } ∧
    t.write p 0x29 v = .ok { t with m1 := { t.m1 with resetToPlayer := v.getLsbD 1 } } ∧
    t.write p 0x2A v = .ok { t.mapSprites (fun k => { k with moreHmove := true }) with
      hmoveLatch := true, hmoveCt := some 15 } ∧
    t.write p 0x2B v = .ok (t.mapSprites (fun k => { k with hm := 0 })) ∧
    t.write p 0x2C v = .ok { t with cx := Collisions.clear } ∧
    ∀ n : BitVec 6, 0x2D ≤ n.toNat → t.write p n v = .ok t

/-- The read registers: bits 7 and 6 of each collision register, by register number (R452); bit 6 of the others reads 0, and
both bits of 14 and 15 (R451). -/
def Obligations.ReadRegisters : Prop :=
  ∀ (steps : Nat) (t : Tia),
    t.readBits steps 0 = (t.cx.m0p1, t.cx.m0p0) ∧ t.readBits steps 1 = (t.cx.m1p0, t.cx.m1p1) ∧
    t.readBits steps 2 = (t.cx.p0pf, t.cx.p0bl) ∧ t.readBits steps 3 = (t.cx.p1pf, t.cx.p1bl) ∧
    t.readBits steps 4 = (t.cx.m0pf, t.cx.m0bl) ∧ t.readBits steps 5 = (t.cx.m1pf, t.cx.m1bl) ∧
    t.readBits steps 6 = (t.cx.blpf, false) ∧ t.readBits steps 7 = (t.cx.p0p1, t.cx.m0m1) ∧
    (∀ n : BitVec 4, 8 ≤ n.toNat → (t.readBits steps n).2 = false) ∧
    t.readBits steps 14 = (false, false) ∧ t.readBits steps 15 = (false, false)

/-- One motion clock of a sprite (R421, R422) of shape `sh` (its bits, clocks per bit, start delay, copies): the phase machine
moves first; then the position counter; a copy that starts replaces the phase. The counts at which copies start are those of
R423. A start delay of 0 is left out: the spec gives none; that `Latching(0)`, to which R422 gives no meaning, goes on like
`Latching(1)` is the model's choice (log 21). -/
def Obligations.SpriteClock : Prop :=
  (∀ (copies : Option (BitVec 3)) (v : Nat), startCopy copies v =
      if v = 39 then some 0
      else if v = 3 ∧ (copies = some 1 ∨ copies = some 3) then some 1
      else if v = 7 ∧ (copies = some 2 ∨ copies = some 6) then some 1
      else if v = 7 ∧ copies = some 3 then some 2
      else if v = 15 ∧ copies = some 4 then some 1
      else if v = 15 ∧ copies = some 6 then some 2
      else none) ∧
  ∀ (sh : SpriteShape) (k : Sprite), 0 < sh.startDelay →
    ∀ start, start = (if k.ctr.pclk = .fallingPhi2 then startCopy sh.copies ((k.ctr.count + 1) % 40) else none) →
      (k.tick sh).ctr = (if k.ctr.pclk = .fallingPhi2 then ⟨(k.ctr.count + 1) % 40, .risingPhi1⟩
        else ⟨k.ctr.count, k.ctr.pclk.tick⟩) ∧
      (∀ c, start = some c → (k.tick sh).phase = .latching sh.startDelay ∧ (k.tick sh).scan.copy = c) ∧
      (start = none → (k.tick sh).scan.copy = k.scan.copy ∧
        (k.tick sh).phase = match k.phase with
          | .idle => .idle
          | .latching n => if n ≤ 1 then .active else .latching (n - 1)
          | .active => if k.scan.sub + 1 = sh.width ∧ k.scan.bit + 1 = sh.nbits then .idle else .active) ∧
      ((k.tick sh).scan.bit, (k.tick sh).scan.sub) = (match k.phase with
        | .idle => (k.scan.bit, k.scan.sub)
        | .latching n => if n ≤ 1 then (0, 0) else (k.scan.bit, k.scan.sub)
        | .active => if k.scan.sub + 1 = sh.width then (k.scan.bit + 1, 0) else (k.scan.bit, k.scan.sub + 1)) ∧
      (k.tick sh).hm = k.hm ∧ (k.tick sh).moreHmove = k.moreHmove ∧ (k.tick sh).resetPixel = k.resetPixel ∧
      (k.tick sh).hmovedPixel = k.hmovedPixel ∧ (k.tick sh).events = k.events

/-- Video. The pixels: a player's bit of its old or new graphics, bit 7 first unless reflected; a missile, which is hidden while
it is locked to its player; the ball by its old or new enable; the playfield's 20 bits, mirrored on the right half when reflected
(R425 to R427). One colour clock in which no event fires: in the blanks there is no colour and the collision latches stay;
outside, each latch is set when both objects of its pair output a pixel on this clock, none is cleared, and the colour is that of
R442 (where the playfield bit and the ball coincide in score mode the spec leaves the colour unclear: left out, log 22; the kept signal is the model's,
log 23). -/
def Obligations.VisibleClock : Prop :=
  (∀ k : Player, k.pixel = (decide (k.sprite.phase = .active) &&
    (if k.vdel then k.gfxOld else k.gfxNew).getLsbD (if k.reflect then k.sprite.scan.bit else 7 - k.sprite.scan.bit))) ∧
  (∀ k : Missile, k.pixel = decide (k.sprite.phase = .active ∧ k.enable = true ∧ k.resetToPlayer = false)) ∧
  (∀ k : Ball, k.pixel = (decide (k.sprite.phase = .active) && (if k.vdel then k.enableOld else k.enableNew))) ∧
  (∀ (k : Playfield) (x i : Nat), i = (if 80 ≤ x ∧ k.reflect = true then 19 - x % 80 / 4 else x % 80 / 4) →
    (pf0Bits k.pf0 ++ (byteBits k.pf1).reverse ++ byteBits k.pf2)[i]? = some (k.pixel x)) ∧
  ∀ (p : Params) (t u : Tia), (∀ g, ∀ e ∈ t.eventsOf g, 1 < e.remaining) → u = t.tick p →
    (u.hblank = true ∨ u.vblank = true → u.cx = t.cx ∧ u.signal.colour = none) ∧
    (u.hblank = false → u.vblank = false → ∀ (x : Nat) (f : Bool), x = u.hclk - 68 → f = u.pf.pixel x →
      u.cx = { m0p1 := t.cx.m0p1 || (u.m0.pixel && u.p1.pixel), m0p0 := t.cx.m0p0 || (u.m0.pixel && u.p0.pixel),
               m1p0 := t.cx.m1p0 || (u.m1.pixel && u.p0.pixel), m1p1 := t.cx.m1p1 || (u.m1.pixel && u.p1.pixel),
               p0pf := t.cx.p0pf || (u.p0.pixel && f), p0bl := t.cx.p0bl || (u.p0.pixel && u.bl.pixel),
               p1pf := t.cx.p1pf || (u.p1.pixel && f), p1bl := t.cx.p1bl || (u.p1.pixel && u.bl.pixel),
               m0pf := t.cx.m0pf || (u.m0.pixel && f), m0bl := t.cx.m0bl || (u.m0.pixel && u.bl.pixel),
               m1pf := t.cx.m1pf || (u.m1.pixel && f), m1bl := t.cx.m1bl || (u.m1.pixel && u.bl.pixel),
               blpf := t.cx.blpf || (u.bl.pixel && f), p0p1 := t.cx.p0p1 || (u.p0.pixel && u.p1.pixel),
               m0m1 := t.cx.m0m1 || (u.m0.pixel && u.m1.pixel) } ∧
      u.signal.collisions = u.cx ∧ u.signal.audio = u.audio ∧
      ∀ a b c : Bool, a = (u.p0.pixel || u.m0.pixel) → b = (u.p1.pixel || u.m1.pixel) → c = (f || u.bl.pixel) →
        (u.pf.priority = true → u.signal.colour = some
          (if c then u.pf.colupf else if a then u.p0.colour else if b then u.p1.colour else u.pf.colubk)) ∧
        (u.pf.priority = false → (u.pf.score && f && u.bl.pixel) = false → u.signal.colour = some
          (if a then u.p0.colour else if b then u.p1.colour
           else if c then (if u.pf.score = true ∧ f = true then (if x < 80 then u.p0.colour else u.p1.colour)
             else u.pf.colupf)
           else u.pf.colubk)))

/-- A read cycle after WSYNC waits, without an access, until the horizontal blank begins: with no live event, as many driver
steps as it takes `hclk` to wrap; then it is made, and WSYNC is clear (R374, R417, R437). -/
def Obligations.WsyncWait : Prop :=
  ∀ (s : State) (a : Addr), s.plainCart → s.tia.wsync = true → s.tia.ctr.count < 57 → s.tia.liveEvents = 0 →
    ∃ x, cycleRead a s = .ok x ∧ x.2.cpu = { s.cpu with t := s.cpu.t + 1, dl := x.1 } ∧ x.2.tia.wsync = false ∧
      x.2.riot.steps = s.riot.steps + (228 - s.tia.hclk + 2) / 3 + 1 ∧ Quiet s x.2

/-! ### The instructions of the ARM -/

/-- MOV immediate, AND, EOR, ORR, BIC, MVN: `Rd`, N and Z; TST: N and Z alone; MUL: `Rd`, N, Z and a C that nothing constrains,
with the model's free-value counter moved on (log 13). No other register or flag and no memory changes (R545, R550, R551, R558,
R562 to R565). -/
def Obligations.ThumbLogic : Prop :=
  ∀ (s : State) (rd rs : LowReg) (imm : Byte),
    (∀ r ∈ thumbLogicRows rd rs imm, ∃ t, exec r.1 s = .next t ∧
      ArmEffect s t (withReg (lowReg rd) (r.2 s) s.reg) (flagsNZ32 (r.2 s) s.arm.c s.arm.v)) ∧
    (∃ t, exec (.tTst rd rs) s = .next t ∧
      ArmEffect s t s.reg (flagsNZ32 (s.low rd &&& s.low rs) s.arm.c s.arm.v)) ∧
    ∃ t c, exec (.tMul rd rs) s = .next t ∧
      ArmEffect { s with arm := { s.arm with freeCount := s.arm.freeCount + 1 } } t
        (withReg (lowReg rd) (s.low rs * s.low rd) s.reg) (flagsNZ32 (s.low rs * s.low rd) c s.arm.v)

/-- Every ADD, SUB, ADC, SBC, NEG of formats 2 to 4: `Rd` and the four flags of `addFlags`; every CMP and CMN: the flags alone
(R534, R540 to R543, R546 to R548, R555, R556, R559 to R561, R567). -/
def Obligations.ThumbSums : Prop :=
  ∀ (s : State) (rd rs rn : LowReg) (hd hs : AnyReg) (imm3 : BitVec 3) (imm : Byte),
    (∀ r ∈ thumbSumRows rd rs rn imm3 imm, ∀ a b c, a = r.2.1 s → b = r.2.2.1 s → c = r.2.2.2 s →
      ∃ t, exec r.1 s = .next t ∧
        ArmEffect s t (withReg (lowReg rd) (addition a b c) s.reg) (additionFlags a b c)) ∧
    ∀ r ∈ thumbCompareRows rd rs hd hs imm, ∀ a b c, a = r.2.1 s → b = r.2.2.1 s → c = r.2.2.2 →
      ∃ t, exec r.1 s = .next t ∧ ArmEffect s t s.reg (additionFlags a b c)

/-- The shifts, by an immediate and by a register: the result and C by the amount, N and Z from the result, V as before (R536 to
R538, R552 to R554, R557). -/
def Obligations.ThumbShifts : Prop :=
  ∀ (s : State) (rd rs : LowReg) (off : BitVec 5), ∀ r ∈ thumbShiftRows rd rs off,
    ∀ x, x = r.2.2.2 (r.2.1 s) (r.2.2.1 s) s.arm.c →
      ∃ t, exec r.1 s = .next t ∧ ArmEffect s t (withReg (lowReg rd) x.1 s.reg) (flagsNZ32 x.1 x.2 s.arm.v)

/-- ADD and MOV of format 5 and the address generation of format 12 into a register other than SP and PC: that register and
nothing else; the forms that write SP, with the stack check of R494 (R566, R568, R587 to R590). -/
def Obligations.ThumbMoves : Prop :=
  ∀ (s : State) (rd : LowReg) (hd hs : AnyReg) (imm : Byte) (imm7 : BitVec 7),
    (hd ≠ 13 → hd ≠ 15 → ∀ r ∈ thumbMoveRows rd hd hs imm,
      ∃ t, exec r.1 s = .next t ∧ ArmEffect s t (withReg r.2.1 (r.2.2 s) s.reg) s.armFlags) ∧
    ∀ r ∈ thumbStackRows hs imm7, ∃ t, exec r.1 s = .next t ∧
      (∀ j, t.reg j = withReg 13 (r.2 s) s.reg j) ∧ t.armFlags = s.armFlags ∧
      t.sansRegs = (s.checkedSp (r.2 s)).sansRegs

/-- The loads of one register: `Rd` takes what the memory chain delivers at the form's address, extended as the form says; no
flag and no other register changes, and the rest is as the chain leaves it (R570, R573, R574, R576 to R578, R580, R582, R584,
R586). The SP-relative form takes a misaligned SP as it is (R586), against R108's last sentence: log 34. -/
def Obligations.ThumbLoads : Prop :=
  ∀ (s : State) (rd rb ro : LowReg) (off : BitVec 5) (imm : Byte), ∀ r ∈ thumbLoadRows rd rb ro off imm,
    ∀ x, x = s.armRead (r.2.1 s) r.2.2.1 →
      ∃ t, exec r.1 s = .next t ∧ (∀ j, t.reg j = withReg (lowReg rd) (r.2.2.2 x.1) s.reg j) ∧
        t.armFlags = s.armFlags ∧ t.sansRegs = x.2.sansRegs

/-- The stores of one register: no register and no flag changes; the memory chain is given the form's address, its width and
`Rd`; no byte outside the stored ones changes, and in variable memory the stored ones hold the register's low bytes, little-endian
(R571, R572, R575, R579, R581, R583, R585, R108, R490). The SP-relative form takes a misaligned SP as
it is (R585), against R108's last sentence: log 34. -/
def Obligations.ThumbStores : Prop :=
  ∀ (s : State) (rd rb ro : LowReg) (off : BitVec 5) (imm : Byte), ∀ r ∈ thumbStoreRows rd rb ro off imm,
    ∀ a n, a = r.2.1 s → n = r.2.2 →
      ∃ t, exec r.1 s = .next t ∧ (∀ j, t.reg j = s.reg j) ∧ t.armFlags = s.armFlags ∧
        t.sansRegs = (s.armWrite a n (s.low rd)).sansRegs ∧
        (s.arm.varMem.wf = true → s.arm.progMem.wf = true →
          (∀ b, b < a.toNat ∨ a.toNat + n ≤ b →
            t.arm.varMem.read b = s.arm.varMem.read b ∧ t.arm.progMem.read b = s.arm.progMem.read b) ∧
          (a.toNat % n = 0 → s.params.inVariable a n = true →
            t.arm.varMem.readLE a.toNat n = (s.low rd).toNat % 256 ^ n ∧ t.arm.progMem = s.arm.progMem))

/-- PUSH and STMIA: the listed registers go to consecutive words through the memory chain, lowest first, LR last, wherever those
words lie; SP or the base moves by four for each; no byte outside the words changes, and nothing else but what the chain and the
stack check do; words in variable memory hold the registers; an empty list and a base that is listed but not lowest are refused
(R490, R494, R591, R593). -/
def Obligations.ThumbBlockStores : Prop :=
  ∀ (s : State) (list : Byte) (regs : List AnyReg) (a : Word),
    (∀ r : BitVec 1, Ascending regs (fun j => inList list j ∨ (r = 1 ∧ j = 14)) →
      a = s.reg 13 - BitVec.ofNat 32 (4 * regs.length) →
      (regs = [] → exec (.tPush r list) s = .refused .emptyRegisterList) ∧
      (regs ≠ [] → ∃ t, exec (.tPush r list) s = .next t ∧ (∀ j, t.reg j = withReg 13 a s.reg j) ∧
        t.armFlags = s.armFlags ∧
        t.sansRegs = ((s.wroteWords a (regs.map s.reg)).checkedSp a).sansRegs ∧ SameOutside s t a regs.length ∧
        (s.variableWords a regs.length → s.arm.varMem.wf = true → StoredWords s t a regs ∧
          t.sansVar.sansRegs = (s.checkedSp a).sansVar.sansRegs))) ∧
    ∀ rb : LowReg, Ascending regs (inList list) → a = s.low rb →
      (regs = [] → exec (.tStmia rb list) s = .refused .emptyRegisterList) ∧
      (inList list (lowReg rb) → (∃ j ∈ regs, j.toNat < rb.toNat) →
        exec (.tStmia rb list) s = .refused .stmiaBaseNotLowest) ∧
      (regs ≠ [] → (inList list (lowReg rb) → ∀ j ∈ regs, rb.toNat ≤ j.toNat) →
        ∃ t, exec (.tStmia rb list) s = .next t ∧
          (∀ j, t.reg j = withReg (lowReg rb) (a + BitVec.ofNat 32 (4 * regs.length)) s.reg j) ∧
          t.armFlags = s.armFlags ∧
          t.sansRegs = (s.wroteWords a (regs.map s.reg)).sansRegs ∧ SameOutside s t a regs.length ∧
          (s.variableWords a regs.length → s.arm.varMem.wf = true → StoredWords s t a regs ∧
            t.sansVar.sansRegs = s.sansVar.sansRegs))

/-- POP and LDMIA: the listed registers take consecutive words as the memory chain delivers them, wherever they lie, lowest first,
PC last; SP moves past them; the base too unless it is listed; a popped PC has bit 0 cleared; nothing else changes but what the
chain and the stack check do; in variable memory the words are its bytes; an empty list is refused (R490, R494, R592, R594). -/
def Obligations.ThumbBlockLoads : Prop :=
  ∀ (s : State) (list : Byte) (regs : List AnyReg), Ascending regs (inList list) →
    (∀ a n, a = s.reg 13 → n = regs.length →
      (regs = [] → exec (.tPop 0 list) s = .refused .emptyRegisterList) ∧
      (regs ≠ [] → ∃ t, exec (.tPop 0 list) s = .next t ∧ t.reg 13 = a + BitVec.ofNat 32 (4 * n) ∧
        (∀ j, j ∉ regs → j ≠ 13 → t.reg j = s.reg j) ∧ t.armFlags = s.armFlags ∧
        regs.map t.reg = (s.readWords a n).1 ∧
        t.sansRegs = ((s.readWords a n).2.checkedSp (a + BitVec.ofNat 32 (4 * n))).sansRegs ∧
        (s.variableWords a n → LoadedWords s t a regs ∧
          t.sansRegs = (s.checkedSp (a + BitVec.ofNat 32 (4 * n))).sansRegs)) ∧
      ∃ t, exec (.tPop 1 list) s = .next t ∧ t.reg 13 = a + BitVec.ofNat 32 (4 * (n + 1)) ∧
        (∀ j, j ∉ regs → j ≠ 13 → j ≠ 15 → t.reg j = s.reg j) ∧ t.armFlags = s.armFlags ∧
        (∃ w, (s.readWords a (n + 1)).1 = regs.map t.reg ++ [w] ∧ t.reg 15 = w &&& 0xFFFFFFFE) ∧
        (∀ u : State, u = (s.readWords a (n + 1)).2.checkedSp (a + BitVec.ofNat 32 (4 * (n + 1))) →
          t.sansRegs = { u with arm := { u.arm with wrotePC := true } }.sansRegs) ∧
        (s.variableWords a (n + 1) → LoadedWords s t a regs ∧
          t.reg 15 = BitVec.ofNat 32 (s.arm.varMem.readLE (a.toNat + 4 * n) 4) &&& 0xFFFFFFFE ∧
          ∀ u : State, u = s.checkedSp (a + BitVec.ofNat 32 (4 * (n + 1))) →
            t.sansRegs = { u with arm := { u.arm with wrotePC := true } }.sansRegs)) ∧
    ∀ (rb : LowReg) (a : Word), a = s.low rb →
      (regs = [] → exec (.tLdmia rb list) s = .refused .emptyRegisterList) ∧
      (regs ≠ [] → ∃ t, exec (.tLdmia rb list) s = .next t ∧
        (∀ j, j ∉ regs → j ≠ lowReg rb → t.reg j = s.reg j) ∧ t.armFlags = s.armFlags ∧
        (¬inList list (lowReg rb) → t.low rb = a + BitVec.ofNat 32 (4 * regs.length)) ∧
        regs.map t.reg = (s.readWords a regs.length).1 ∧ t.sansRegs = (s.readWords a regs.length).2.sansRegs ∧
        (s.variableWords a regs.length → LoadedWords s t a regs ∧ t.sansRegs = s.sansRegs))

/-- The conditional branches: where the condition of R535 holds, the PC becomes the target (R482, R595); else nothing changes. -/
def Obligations.ThumbBranches : Prop :=
  ∀ (s : State) (off : Byte), ∀ r ∈ List.zip (thumbBranchRows off) (conditionHolds s.armFlags),
    ∃ t, exec r.1 s = .next t ∧
      (r.2 = true → ArmJump s t s.reg (s.reg 15 + BitVec.ofInt 32 (2 * off.toInt))) ∧
      (r.2 = false → ArmEffect s t s.reg s.armFlags)

/-- The unconditional PC writes: ADD and MOV into PC, BX with bit 0 set, B, the two halves of BL; BX with bit 0 clear and SWI
halt (R482, R566, R568, R569, R596, R597, R601, R602). While an instruction at `X` executes, `R[15]` is `X + 4` (R481). -/
def Obligations.ThumbJumps : Prop :=
  ∀ (s : State) (hs : AnyReg) (off : BitVec 11) (imm : Byte),
    (∃ t, exec (.tAddHi 15 hs) s = .next t ∧ ArmJump s t s.reg (s.reg 15 + s.reg hs)) ∧
    (∃ t, exec (.tMovHi 15 hs) s = .next t ∧ ArmJump s t s.reg (s.reg hs)) ∧
    ((s.reg hs).getLsbD 0 = true → ∃ t, exec (.tBx hs) s = .next t ∧ ArmJump s t s.reg (s.reg hs)) ∧
    ((s.reg hs).getLsbD 0 = false → exec (.tBx hs) s = .fault .armStateNotSupported) ∧
    (∃ t, exec (.tB off) s = .next t ∧ ArmJump s t s.reg (s.reg 15 + BitVec.ofInt 32 (2 * off.toInt))) ∧
    (∃ t, exec (.tBlHi off) s = .next t ∧
      ArmEffect s t (withReg 14 (s.reg 15 + BitVec.ofInt 32 (4096 * off.toInt)) s.reg) s.armFlags) ∧
    (∀ x : Word, s.reg 15 = x + 4 → ∃ t, exec (.tBlLo off) s = .next t ∧
      ArmJump s t (withReg 14 ((x + 2) ||| 1) s.reg) (s.reg 14 + BitVec.ofNat 32 (2 * off.toNat))) ∧
    exec (.tSwi imm) s = .fault .unhandledOpcodeClass

/-! ### The ARM core -/

/-- The memory chain of the ARM: misaligned and unclaimed addresses are illegal (a read gives 0, a write is discarded, both are
logged); program and variable memory are little-endian; program memory rejects writes unless it is writable; the registers of the
timer, the RNG and the MAM answer at the addresses of the default map, the model's (log 6), which R491 gives for orientation; that
a timer keeps its fraction when the control word clears the counter is the model's too (log 16) (R108, R490, R492, R493, R505). -/
def Obligations.ArmMemoryChain : Prop :=
  ∀ (s : State) (a v : Word) (n : Nat), n ∈ [1, 2, 4] →
    (a.toNat % n ≠ 0 →
      s.armRead a n = (0, s.refusedAccess true a) ∧ s.armWrite a n v = s.refusedAccess false a) ∧
    (s.params.inProgram a n = false → s.params.inVariable a n = false → s.params.peripheral a = none →
      s.armRead a n = (0, s.refusedAccess true a) ∧ s.armWrite a n v = s.refusedAccess false a) ∧
    (a.toNat % n = 0 → s.params.inProgram a n = true → (s.armRead a n).2 = s ∧
      ((s.armRead a n).1).toNat = ((List.range n).map (fun k => 256 ^ k * (s.arm.progMem.read (a.toNat + k)).toNat)).sum) ∧
    (a.toNat % n = 0 → s.params.inProgram a n = false → s.params.inVariable a n = true → (s.armRead a n).2 = s ∧
      ((s.armRead a n).1).toNat = ((List.range n).map (fun k => 256 ^ k * (s.arm.varMem.read (a.toNat + k)).toNat)).sum) ∧
    (a.toNat % n = 0 → s.params.inVariable a n = true → s.arm.varMem.wf = true → ∀ t, t = s.armWrite a n v →
      (∀ b, t.arm.varMem.read b =
        if a.toNat ≤ b ∧ b < a.toNat + n then v.extractLsb' (8 * (b - a.toNat)) 8 else s.arm.varMem.read b) ∧
      t.sansVar = s.sansVar) ∧
    (a.toNat % n = 0 → s.params.inVariable a n = false → s.params.inProgram a n = true →
      s.params.programWritable = false → s.armWrite a n v = s.refusedAccess false a) ∧
    (a.toNat % n = 0 → s.params.inVariable a n = false → s.params.inProgram a n = true →
      s.params.programWritable = true → s.arm.progMem.wf = true → ∀ t, t = s.armWrite a n v →
      (∀ b, t.arm.progMem.read b =
        if a.toNat ≤ b ∧ b < a.toNat + n then v.extractLsb' (8 * (b - a.toNat)) 8 else s.arm.progMem.read b) ∧
      { t with arm := { t.arm with progMem := s.arm.progMem } } = s) ∧
    (s.params = {} → ∀ k, k = s.arm →
      s.armRead 0xE0008004 4 = (k.timer.ctrl, s) ∧ s.armRead 0xE0008008 4 = (k.timer.count, s) ∧
      s.armRead 0xE01FC000 4 = (k.mamcr.setWidth 32, s) ∧ s.armRead 0xE01FC004 4 = (k.mamtim.setWidth 32, s) ∧
      (s.armRead 0x50060808 4).2 = { s with arm := { k with
        rngCount := k.rngCount + 1, rngLast := (s.armRead 0x50060808 4).1 } } ∧
      s.armWrite 0xE0008004 4 v = { s with arm := { k with timer := { k.timer with
        ctrl := v, count := if v.getLsbD 1 then 0 else k.timer.count } } } ∧
      s.armWrite 0xE01FC000 4 v = { s with arm := { k with mamcr := v.extractLsb' 0 2 } } ∧
      s.armWrite 0xE01FC004 4 v = { s with arm := { k with mamtim := v.extractLsb' 0 3 } } ∧
      s.armWrite 0x50060808 4 v = s)

/-- The end of an ARM instruction at `x`: without a PC write execution goes on two bytes further; with one, at the target, and
`R[15]` is two past it; the reset LR's address ends the program, and the entry of a StrongARM function starts it with `R[0..3]`
and yields; a tag that the function table does not hold is refused, the model's choice (log 29) (R476, R480, R485, R486, R621). Then
its stretched cycles are booked: to the totals, to this run's counts, and to each timer whose enable bit is set, whose counter
moves by the whole cycles (R471, R492, R498). The fraction a timer keeps and the control word's bits as the instruction left them
are the model's choice (log 16), the units too (log 19). -/
def Obligations.ArmInstructionEnd : Prop :=
  (∀ (s : State) (x target : Word), target = s.reg 15 →
    (s.arm.wrotePC = false →
      s.retirePC x = .ok { s with arm := { s.arm with executingPC := x + 2, instructionPC := x + 2 } }) ∧
    (s.arm.wrotePC = true → ∀ u : State,
      u = s.mapArm (fun a => { a.setReg 15 (target + 2) with executingPC := target, instructionPC := target }) →
      (target = s.params.armResetLr &&& 0xFFFFFFFE →
        s.retirePC x = .ok { u with arm := { u.arm with yield := .programEnded } }) ∧
      (target ≠ s.params.armResetLr &&& 0xFFFFFFFE →
        ((∀ e ∈ s.params.strongArmEntries, e.1 ≠ target) → s.retirePC x = .ok u) ∧
        ∀ f, s.params.entryTag target = some f →
          ((s.params.functionSteps f).isSome = true → s.retirePC x = .ok { u with
            arm := { u.arm with yield := .syncWithVcs }
            shim := { u.shim with running := ⟨some f, 0, #v[s.reg 0, s.reg 1, s.reg 2, s.reg 3]⟩ } }) ∧
          ((s.params.functionSteps f).isSome = false →
            s.retirePC x = .error (.refused .unknownStrongArmFunction))))) ∧
  ∀ (p : Params) (a b : Arm), b = a.book p →
    b.total = ⟨a.total.n + a.instr.n, a.total.s + a.instr.s, a.total.i + a.instr.i⟩ ∧
    b.cycles = a.cycles + a.instrUnits ∧ b.runUnits = a.runUnits + a.instrUnits ∧ b.runInstrs = a.runInstrs + 1 ∧
    { b with total := a.total, cycles := a.cycles, runUnits := a.runUnits, runInstrs := a.runInstrs, timer := a.timer,
             timer2 := a.timer2 } = a ∧
    ∀ r ∈ [(a.timer, b.timer), (a.timer2, b.timer2)],
      (r.1.ctrl.getLsbD 0 = false → r.2 = r.1) ∧
      (r.1.ctrl.getLsbD 0 = true → r.2.ctrl = r.1.ctrl ∧ r.2.frac < p.unit ∧
        ∃ whole, whole * p.unit + r.2.frac = r.1.frac + a.instrUnits ∧ r.2.count = r.1.count + BitVec.ofNat 32 whole)

/-- The beginning of `Run()`: after `ProgramEnded` the registers are reset as R474 says, the memories, peripherals and counters
kept; after any other yield nothing of the program's state changes (R471, R473, R474). -/
def Obligations.ArmRunBegins : Prop :=
  ∀ (p : Params) (a b : Arm), b = a.beginRun p →
    (b.yield = .running ∧ b.runUnits = 0 ∧ b.runInstrs = 0 ∧ b.skipBreak = (a.yield == .breakpoint)) ∧
    (a.yield = .programEnded →
      (∀ j : AnyReg, j.toNat < 13 → b.reg j = 0) ∧ b.reg 13 = p.armResetSp ∧ b.reg 14 = p.armResetLr ∧
      b.reg 15 = p.armResetPc + 2 ∧ b.executingPC = p.armResetPc ∧
      (b.n, b.z, b.c, b.v, b.decode32, b.stackCheck, b.lastWasI) = (false, false, false, false, false, true, false) ∧
      { b with r := a.r, executingPC := a.executingPC, instructionPC := a.instructionPC, n := a.n, z := a.z, c := a.c,
               v := a.v, decode32 := a.decode32, stackCheck := a.stackCheck, lastWasI := a.lastWasI, yield := a.yield,
               runUnits := a.runUnits, runInstrs := a.runInstrs, skipBreak := a.skipBreak } = a) ∧
    (a.yield ≠ .programEnded →
      { b with yield := a.yield, runUnits := a.runUnits, runInstrs := a.runInstrs, skipBreak := a.skipBreak } = a)

/-- The N, S and I cycles of every Thumb instruction (R500); with the default `FLASH_ACCESS_NS` each costs one cycle (R497), in
the units of log 19, at an address in no region too, which R497 does not price (log 39). -/
def Obligations.ThumbCycles : Prop :=
  ∀ (s t : State) (i : Instr) (k : CycleCounts),
    ((∃ rd rs ro hd hs off imm3 imm imm7 far, (i, k) ∈ thumbCycleRows rd rs ro hd hs off imm3 imm imm7 far) ∨
      (∃ rd rs m, i = .tMul rd rs ∧ k = ⟨0, 1, m⟩ ∧
        ∀ v : Int, v = (s.low rd).toInt → m =
          if -256 ≤ v ∧ v < 256 then 1 else if -65536 ≤ v ∧ v < 65536 then 2
          else if -16777216 ≤ v ∧ v < 16777216 then 3 else 4) ∨
      (∃ hs, i = .tBx hs ∧ k = ⟨1, 2, 0⟩) ∨
      (∃ hd hs, (i = .tAddHi hd hs ∨ i = .tMovHi hd hs) ∧ k = if hd = 15 then ⟨1, 2, 0⟩ else ⟨0, 1, 0⟩) ∨
      (∃ off, (i, true) ∈ List.zip (thumbBranchRows off) (conditionHolds s.armFlags) ∧ k = ⟨1, 2, 0⟩) ∨
      (∃ off, (i, false) ∈ List.zip (thumbBranchRows off) (conditionHolds s.armFlags) ∧ k = ⟨0, 1, 0⟩) ∨
      ∃ list n, n = ((List.range 8).filter (fun j => list.getLsbD j)).length ∧
        ((∃ r : BitVec 1, i = .tPush r list ∧ k = ⟨2, n + r.toNat - 1, 0⟩) ∨
          (∃ rb, i = .tStmia rb list ∧ k = ⟨2, n - 1, 0⟩) ∨ (∃ rb, i = .tLdmia rb list ∧ k = ⟨1, n, 1⟩) ∨
          (i = .tPop 0 list ∧ k = ⟨1, n, 1⟩) ∨ (i = .tPop 1 list ∧ k = ⟨2, n + 2, 1⟩))) →
    exec i s = .next t →
    t.arm.instr = ⟨s.arm.instr.n + k.n, s.arm.instr.s + k.s, s.arm.instr.i + k.i⟩ ∧
    (s.params.flashNum = 0 → t.arm.instrUnits = s.arm.instrUnits + s.params.unit * (k.n + k.s + k.i))

/-! ### The StrongARM shim -/

/-- The nine functions of R631 on the bus: each makes its calls in order, and a cycle that does not match changes nothing; after
the last one the function that pushed it goes on where it stood, or the ARM stands at its return address (R622, R625 to R628,
R631, R635); the trigger that makes its `Run()` follow is the model's (log 26). A call that pushes, whatever it waited for, has
moved its own state on and starts the other function with the arguments it names, and a second push halts (R623). An injected byte
is what the 6507 reads; a stuffed byte is what RAM and the TIA receive (R625, R626, R628). -/
def Obligations.ShimFunctions : Prop :=
  (∀ (s : State) (r : FnTag × List ShimCall × BusAddr) (regs : Vector Word 4), s.mapper.variant = .coproc →
    s.params.strongArmFunctions = defaultFunctions → s.shim.running = ⟨some r.1, 0, regs⟩ → s.shim.busStuff = false →
    r ∈ shimFunctionRows (regs[0].setWidth 8) (regs[1].setWidth 8) s.shim.expectedAddr →
    ∃ t, ShimRun s r.2.1 t ∧ t.shim.busStuff = false ∧ t.shim.expectedAddr = r.2.2 ∧
      (t.shim.maskA, t.shim.maskX, t.shim.maskY) = (s.shim.maskA, s.shim.maskX, s.shim.maskY) ∧
      t.shim.busStuffData = (if r.1 = .vcsWrite3 then regs[1].setWidth 8 else s.shim.busStuffData) ∧
      (∀ g, s.shim.pushed.fn = some g → t.shim.running = s.shim.pushed ∧ t.shim.pushed.fn = none ∧
        { t with shim := s.shim } = s) ∧
      (s.shim.pushed.fn = none → t.shim.running.fn = none ∧ t.shim.pushed = s.shim.pushed ∧
        (∀ pc, pc = s.reg 14 &&& 0xFFFFFFFE →
          t.arm = { s.arm.setReg 15 (pc + 2) with executingPC := pc, instructionPC := pc }) ∧
        t.mapper = { s.mapper with triggered := true } ∧
        { t with shim := s.shim, arm := s.arm, mapper := s.mapper } = s)) ∧
  (∀ (s : State) (k : BusCycle) (st : ShimStep) (g : FnTag) (args : Vector ShimSource 4), s.shimStep = some st →
    st.andThen = .push g args → s.shim.ready k st.act = true →
    (s.shim.pushed.fn.isSome = true → s.shimTick k = .error (.fault .doublePush)) ∧
    (s.shim.pushed.fn = none → (s.params.functionSteps g).isSome = true →
      ∃ t, s.shimTick k = .ok (s.shim.driven k st.act, t) ∧
        t.shim.pushed = { s.shim.running with state := s.shim.running.state + 1 } ∧
        t.shim.running.fn = some g ∧ t.shim.running.state = 0 ∧
        (∀ i j : Fin 4, args[i.val] = .arg j → t.shim.running.regs[i.val] = s.shim.running.regs[j.val]) ∧
        (∀ (i : Fin 4) (w : Word), args[i.val] = .const w → t.shim.running.regs[i.val] = w) ∧
        { t with shim := s.shim } = s)) ∧
  (∀ (s t : State) (a : Addr) (b : Byte), s.shimTick (.read (busAddr a)) = .ok (some b, t) →
    rangeOf (busAddr a) = .cartridge → ∃ u, s.busRead a = .ok (b, u) ∧ u.bus.lastData = b) ∧
  ∀ (s t : State) (a : Addr) (v b : Byte), s.shimTick (.write (busAddr a) v) = .ok (some b, t) →
    (inRam a → t.riot.ram.wf = true → ∃ u, s.busWrite a v = .ok (none, u) ∧ u.ramByte a = b ∧ u.bus.lastData = b) ∧
    (rangeOf (busAddr a) = .tia → t.params.tiaWritePhase = 0 → ∀ w, t.tia.write t.params ((busAddr a).setWidth 6) b = .ok w →
      ∃ u, s.busWrite a v = .ok (none, u) ∧ u.tia = w ∧ u.bus.lastData = b)

/-! ### Reset and the invariant -/

/-- The reset sequence: seven driver steps; SP is three less, I is set, D and the other flags and registers stay, the PC comes
from `0xFFFC` (R702, R720). -/
def Obligations.ResetSequence : Prop :=
  ∀ s : State, s.configRefusal = none → s.plainCart → s.cpu.resetting = true → s.tia.wsync = false →
    s.tia.liveEvents = 0 →
    ∃ t lo hi, step s = .next t ∧
      t.cpu.arch = ({ s.cpu with sp := s.cpu.sp - 3, i := true, pc := hi ++ lo, resetting := false } : Cpu).arch ∧
      Quiet s t ∧ t.riot.steps = s.riot.steps + 7 ∧
      (∀ v, s.codeByte 0xFFFC = some v → lo = v) ∧ (∀ v, s.codeByte 0xFFFD = some v → hi = v)

/-- What a hard reset, a cartridge swap and power-on leave, of the values R700 gives, from any state; and what the first two
keep or take from the cartridge: the registers and flags of the 6507, RAM, the RNG's state; the program image, and on a swap the
parameters the new mapper supplies (R56, R700, R701, R703 to R705). SP's three steps down, I and PC are those of the reset
sequence, which follows (ResetSequence). -/
def Obligations.ResetValues : Prop :=
  (∀ (s t : State) (m : Mapper) (c : CartParams), t = s.hardReset ∨ t = s.swapCartridge m c ∨ t = State.reset →
    (t.cpu.jammed = false ∧ t.cpu.resetting = true ∧ t.cpu.t = 0) ∧
    (t.tia.ctr = ⟨0, .risingPhi1⟩ ∧ t.tia.hblank = true ∧ t.tia.hsyncSig = false ∧ t.tia.vsync = false ∧
      t.tia.vblank = false ∧ t.tia.hmoveLatch = false ∧ t.tia.wsync = false ∧ t.tia.hmoveCt = none ∧
      t.tia.liveEvents = 0 ∧ t.tia.cx = Collisions.clear ∧ t.tia.inptLatch = false ∧ t.tia.inptDump = false ∧
      ∀ i, t.tia.sprite i = ⟨⟨0, .risingPhi1⟩, 0, false, 0, 0, .idle, ⟨0, 0, 0⟩, []⟩) ∧
    (∀ k ∈ [t.tia.p0, t.tia.p1],
      (k.gfxNew, k.gfxOld, k.vdel, k.reflect, k.nusiz, k.colour) = (0, 0, false, false, 0, 0)) ∧
    (∀ k ∈ [t.tia.m0, t.tia.m1], (k.enable, k.copies, k.size, k.resetToPlayer) = (false, 0, 0, false)) ∧
    (t.tia.bl.enableNew, t.tia.bl.enableOld, t.tia.bl.vdel, t.tia.bl.size) = (false, false, false, 0) ∧
    t.tia.pf = ⟨0, 0, 0, false, false, false, 0, 0, []⟩ ∧ t.tia.audio = ⟨0, 0, 0, 0, 0, 0⟩ ∧
    (t.arm.n, t.arm.z, t.arm.c, t.arm.v) = (false, false, false, false) ∧ t.arm.yield = .programEnded ∧
    t.arm.executingPC = t.params.armResetPc ∧ t.arm.decode32 = false ∧
    (t.arm.instr, t.arm.total, t.arm.cycles) = (⟨0, 0, 0⟩, ⟨0, 0, 0⟩, 0) ∧
    (t.arm.timer.ctrl, t.arm.timer.count, t.arm.timer2.ctrl, t.arm.timer2.count) = (0, 0, 0, 0) ∧
    (t.arm.mamcr, t.arm.mamtim) = (0, 0) ∧ t.arm.progMem = t.mapper.armImage ∧
    (t.mapper.variant ≠ .coproc → t.arm.variableMemTop = 0) ∧ t.arm.stackCheck = true ∧ t.arm.interruptReq = false ∧
    (t.mapper.armCarry, t.mapper.debt) = (0, 0) ∧ t.shim.running.fn = none ∧ t.shim.pushed.fn = none ∧
    t.shim.busStuff = false ∧ t.shim.busStuffData = 0 ∧ (t.shim.maskA, t.shim.maskX, t.shim.maskY) = (0, 0, 0) ∧
    t.shim.expectedAddr = 0x1000) ∧
  ∀ (s t : State) (m : Mapper) (c : CartParams), t = s.hardReset ∨ t = s.swapCartridge m c →
    (t.cpu.a, t.cpu.x, t.cpu.y, t.cpu.sp) = (s.cpu.a, s.cpu.x, s.cpu.y, s.cpu.sp) ∧
    (t.cpu.n, t.cpu.v, t.cpu.d, t.cpu.z, t.cpu.c) = (s.cpu.n, s.cpu.v, s.cpu.d, s.cpu.z, s.cpu.c) ∧
    t.riot.ram = s.riot.ram ∧ (t.arm.rngCount, t.arm.rngLast) = (s.arm.rngCount, s.arm.rngLast) ∧
    (t = s.hardReset → t.params = s.params ∧ t.mapper.rom = s.mapper.rom ∧ t.mapper.armImage = s.mapper.armImage) ∧
    (t = s.swapCartridge m c → t.params = { s.params with toCartParams := c } ∧ t.mapper.variant = m.variant ∧
      t.mapper.rom = m.rom ∧ t.mapper.armImage = m.armImage)

/-- The state after reset meets the invariant. -/
def Obligations.InvAtReset : Prop := State.reset.Inv

/-- Every step keeps the invariant: canonical memories, a valid TIA with at most 64 live events, the shim's R624, and the
pipeline's R480. -/
def Obligations.InvKept : Prop := ∀ s t : State, s.Inv → step s = .next t → t.Inv
end

