-- ==== Sys2Proof/Laws/Mem.lean ====
section
/-! SUPPORT. The laws of memories: read after write, and that every operation keeps the canonical form. -/

namespace Sys2Proof.Machine

theorem Memory.wf_cons {a : Nat} {b : Byte} {m : Memory} :
    Memory.wf ((a, b) :: m) = true ↔ b ≠ unlisted ∧ (∀ c ∈ m, a < c.1) ∧ Memory.wf m = true := by
  simp [Memory.wf, and_assoc]

theorem Memory.read_of_lt {m : Memory} {k : Nat} (h : ∀ c ∈ m, k < c.1) : m.read k = unlisted := by
  induction m with
  | nil => rfl
  | cons c m ih =>
    obtain ⟨a, b⟩ := c
    have ha : k < a := h (a, b) (by simp)
    rw [Memory.read, if_neg (by omega), ih fun c hc => h c (by simp [hc])]

/-- A read after a write to the same address gives the value written. -/
theorem Memory.read_write_same {m : Memory} (h : m.wf = true) (k : Nat) (v : Byte) : (m.write k v).read k = v := by
  induction m with
  | nil =>
    by_cases hv : v = unlisted <;> simp [Memory.write, Memory.read, hv]
  | cons c m ih =>
    obtain ⟨a, b⟩ := c
    obtain ⟨hb, hlt, hm⟩ := Memory.wf_cons.1 h
    rw [Memory.write]
    split_ifs with h1 h2 h3 h4
    · rw [h2]
      exact Memory.read_of_lt fun c hc => by
        rcases List.mem_cons.1 hc with rfl | hc
        · exact h1
        · exact lt_trans h1 (hlt c hc)
    · simp [Memory.read]
    · rw [h4, h3]; exact Memory.read_of_lt hlt
    · simp [Memory.read]
    · rw [Memory.read, if_neg (by omega), ih hm]

/-- A write leaves every other address alone. -/
theorem Memory.read_write_other (m : Memory) {k j : Nat} (v : Byte) (h : j ≠ k) : (m.write k v).read j = m.read j := by
  induction m with
  | nil => by_cases hv : v = unlisted <;> simp [Memory.write, Memory.read, hv, Ne.symm h]
  | cons c m ih =>
    obtain ⟨a, b⟩ := c
    rw [Memory.write]
    split_ifs with h1 h2 h3 h4
    · rfl
    · rw [Memory.read, if_neg (Ne.symm h)]
    · subst h3; rw [Memory.read, if_neg (Ne.symm h)]
    · subst h3; simp [Memory.read, Ne.symm h]
    · simp only [Memory.read, ih]

theorem Memory.mem_write {m : Memory} {k : Nat} {v : Byte} {c : Host.Cell} (h : c ∈ m.write k v) :
    c = (k, v) ∨ c ∈ m := by
  induction m with
  | nil => by_cases hv : v = unlisted <;> simp_all [Memory.write]
  | cons d m ih =>
    obtain ⟨a, b⟩ := d
    rw [Memory.write] at h
    split_ifs at h <;> simp only [List.mem_cons] at h ⊢ <;> tauto

/-- A write keeps the canonical form. -/
theorem Memory.wf_write {m : Memory} (h : m.wf = true) (k : Nat) (v : Byte) : (m.write k v).wf = true := by
  induction m with
  | nil => by_cases hv : v = unlisted <;> simp [Memory.write, Memory.wf, hv]
  | cons c m ih =>
    obtain ⟨a, b⟩ := c
    obtain ⟨hb, hlt, hm⟩ := Memory.wf_cons.1 h
    rw [Memory.write]
    split_ifs with h1 h2 h3 h4
    · exact h
    · exact Memory.wf_cons.2 ⟨h2, fun c hc => by
        rcases List.mem_cons.1 hc with rfl | hc
        · exact h1
        · exact lt_trans h1 (hlt c hc), h⟩
    · exact hm
    · subst h3; exact Memory.wf_cons.2 ⟨h4, hlt, hm⟩
    · refine Memory.wf_cons.2 ⟨hb, fun c hc => ?_, ih hm⟩
      rcases Memory.mem_write hc with rfl | hc
      · simp only; omega
      · exact hlt c hc

/-- A list of writes keeps the canonical form. -/
theorem Memory.wf_writes {m : Memory} (h : m.wf = true) (ws : List (Nat × Byte)) : (m.writes ws).wf = true := by
  unfold Memory.writes
  induction ws generalizing m with
  | nil => exact h
  | cons w ws ih => exact ih (Memory.wf_write h w.1 w.2)

/-- A little-endian write keeps the canonical form. -/
theorem Memory.wf_writeLE {m : Memory} (h : m.wf = true) (k n v : Nat) : (m.writeLE k n v).wf = true := by
  induction n generalizing m k v with
  | zero => exact h
  | succ n ih => exact ih (Memory.wf_write h _ _) _ _

/-- A little-endian write of `n` bytes changes no byte outside them. -/
theorem Memory.read_writeLE_outside (m : Memory) {k j : Nat} (n v : Nat) (h : j < k ∨ k + n ≤ j) :
    (m.writeLE k n v).read j = m.read j := by
  induction n generalizing m k v with
  | zero => rfl
  | succ n ih => rw [Memory.writeLE, ih _ _ (by omega), Memory.read_write_other _ _ (by omega)]

end Sys2Proof.Machine
end

