-- ==== Sys2Proof/Laws/State.lean ====
section
/-! SUPPORT. One lemma per field and named update of the state, the 6507 and the ARM, so that no proof unfolds an update. -/

namespace Sys2Proof.Machine


/-! ### State -/

@[simp] theorem State.mapCpu_params (f : Cpu → Cpu) (s : State) : (s.mapCpu f).params = s.params := rfl
@[simp] theorem State.mapCpu_cpu (f : Cpu → Cpu) (s : State) : (s.mapCpu f).cpu = f s.cpu := rfl
@[simp] theorem State.mapCpu_bus (f : Cpu → Cpu) (s : State) : (s.mapCpu f).bus = s.bus := rfl
@[simp] theorem State.mapCpu_riot (f : Cpu → Cpu) (s : State) : (s.mapCpu f).riot = s.riot := rfl
@[simp] theorem State.mapCpu_mapper (f : Cpu → Cpu) (s : State) : (s.mapCpu f).mapper = s.mapper := rfl
@[simp] theorem State.mapCpu_tia (f : Cpu → Cpu) (s : State) : (s.mapCpu f).tia = s.tia := rfl
@[simp] theorem State.mapCpu_arm (f : Cpu → Cpu) (s : State) : (s.mapCpu f).arm = s.arm := rfl
@[simp] theorem State.mapCpu_shim (f : Cpu → Cpu) (s : State) : (s.mapCpu f).shim = s.shim := rfl
@[simp] theorem State.mapCpu_log (f : Cpu → Cpu) (s : State) : (s.mapCpu f).log = s.log := rfl
@[simp] theorem State.mapArm_params (f : Arm → Arm) (s : State) : (s.mapArm f).params = s.params := rfl
@[simp] theorem State.mapArm_cpu (f : Arm → Arm) (s : State) : (s.mapArm f).cpu = s.cpu := rfl
@[simp] theorem State.mapArm_bus (f : Arm → Arm) (s : State) : (s.mapArm f).bus = s.bus := rfl
@[simp] theorem State.mapArm_riot (f : Arm → Arm) (s : State) : (s.mapArm f).riot = s.riot := rfl
@[simp] theorem State.mapArm_mapper (f : Arm → Arm) (s : State) : (s.mapArm f).mapper = s.mapper := rfl
@[simp] theorem State.mapArm_tia (f : Arm → Arm) (s : State) : (s.mapArm f).tia = s.tia := rfl
@[simp] theorem State.mapArm_arm (f : Arm → Arm) (s : State) : (s.mapArm f).arm = f s.arm := rfl
@[simp] theorem State.mapArm_shim (f : Arm → Arm) (s : State) : (s.mapArm f).shim = s.shim := rfl
@[simp] theorem State.mapArm_log (f : Arm → Arm) (s : State) : (s.mapArm f).log = s.log := rfl
@[simp] theorem State.record_params (e : LogEntry) (s : State) : (s.record e).params = s.params := rfl
@[simp] theorem State.record_cpu (e : LogEntry) (s : State) : (s.record e).cpu = s.cpu := rfl
@[simp] theorem State.record_bus (e : LogEntry) (s : State) : (s.record e).bus = s.bus := rfl
@[simp] theorem State.record_riot (e : LogEntry) (s : State) : (s.record e).riot = s.riot := rfl
@[simp] theorem State.record_mapper (e : LogEntry) (s : State) : (s.record e).mapper = s.mapper := rfl
@[simp] theorem State.record_tia (e : LogEntry) (s : State) : (s.record e).tia = s.tia := rfl
@[simp] theorem State.record_arm (e : LogEntry) (s : State) : (s.record e).arm = s.arm := rfl
@[simp] theorem State.record_shim (e : LogEntry) (s : State) : (s.record e).shim = s.shim := rfl
@[simp] theorem State.record_log (e : LogEntry) (s : State) : (s.record e).log = e :: s.log := rfl
@[simp] theorem State.latchBus_params (a : Addr) (v : Byte) (b : Bool) (s : State) : (s.latchBus a v b).params = s.params := rfl
@[simp] theorem State.latchBus_cpu (a : Addr) (v : Byte) (b : Bool) (s : State) : (s.latchBus a v b).cpu = s.cpu := rfl
@[simp] theorem State.latchBus_bus (a : Addr) (v : Byte) (b : Bool) (s : State) : (s.latchBus a v b).bus = ⟨a, v, b, v⟩ := rfl
@[simp] theorem State.latchBus_riot (a : Addr) (v : Byte) (b : Bool) (s : State) : (s.latchBus a v b).riot = s.riot := rfl
@[simp] theorem State.latchBus_mapper (a : Addr) (v : Byte) (b : Bool) (s : State) : (s.latchBus a v b).mapper = s.mapper := rfl
@[simp] theorem State.latchBus_tia (a : Addr) (v : Byte) (b : Bool) (s : State) : (s.latchBus a v b).tia = s.tia := rfl
@[simp] theorem State.latchBus_arm (a : Addr) (v : Byte) (b : Bool) (s : State) : (s.latchBus a v b).arm = s.arm := rfl
@[simp] theorem State.latchBus_shim (a : Addr) (v : Byte) (b : Bool) (s : State) : (s.latchBus a v b).shim = s.shim := rfl
@[simp] theorem State.latchBus_log (a : Addr) (v : Byte) (b : Bool) (s : State) : (s.latchBus a v b).log = s.log := rfl
@[simp] theorem State.riotStep_params (s : State) : (s.riotStep).params = s.params := rfl
@[simp] theorem State.riotStep_cpu (s : State) : (s.riotStep).cpu = s.cpu := rfl
@[simp] theorem State.riotStep_bus (s : State) : (s.riotStep).bus = s.bus := rfl
@[simp] theorem State.riotStep_riot (s : State) : (s.riotStep).riot = { s.riot with steps := s.riot.steps + 1 } := rfl
@[simp] theorem State.riotStep_mapper (s : State) : (s.riotStep).mapper = s.mapper := rfl
@[simp] theorem State.riotStep_tia (s : State) : (s.riotStep).tia = s.tia := rfl
@[simp] theorem State.riotStep_arm (s : State) : (s.riotStep).arm = s.arm := rfl
@[simp] theorem State.riotStep_shim (s : State) : (s.riotStep).shim = s.shim := rfl
@[simp] theorem State.riotStep_log (s : State) : (s.riotStep).log = s.log := rfl
@[simp] theorem State.tiaTicks_params (k : Nat) (s : State) : (s.tiaTicks k).params = s.params := rfl
@[simp] theorem State.tiaTicks_cpu (k : Nat) (s : State) : (s.tiaTicks k).cpu = s.cpu := rfl
@[simp] theorem State.tiaTicks_bus (k : Nat) (s : State) : (s.tiaTicks k).bus = s.bus := rfl
@[simp] theorem State.tiaTicks_riot (k : Nat) (s : State) : (s.tiaTicks k).riot = s.riot := rfl
@[simp] theorem State.tiaTicks_mapper (k : Nat) (s : State) : (s.tiaTicks k).mapper = s.mapper := rfl
@[simp] theorem State.tiaTicks_tia (k : Nat) (s : State) : (s.tiaTicks k).tia = s.tia.ticks s.params k := rfl
@[simp] theorem State.tiaTicks_arm (k : Nat) (s : State) : (s.tiaTicks k).arm = s.arm := rfl
@[simp] theorem State.tiaTicks_shim (k : Nat) (s : State) : (s.tiaTicks k).shim = s.shim := rfl
@[simp] theorem State.tiaTicks_log (k : Nat) (s : State) : (s.tiaTicks k).log = s.log := rfl
@[simp] theorem State.endInstr_params (s : State) : (s.endInstr).params = s.params := rfl
@[simp] theorem State.endInstr_cpu (s : State) : (s.endInstr).cpu = { s.cpu with t := 0 } := rfl
@[simp] theorem State.endInstr_bus (s : State) : (s.endInstr).bus = s.bus := rfl
@[simp] theorem State.endInstr_riot (s : State) : (s.endInstr).riot = s.riot := rfl
@[simp] theorem State.endInstr_mapper (s : State) : (s.endInstr).mapper = s.mapper := rfl
@[simp] theorem State.endInstr_tia (s : State) : (s.endInstr).tia = s.tia := rfl
@[simp] theorem State.endInstr_arm (s : State) : (s.endInstr).arm = s.arm := rfl
@[simp] theorem State.endInstr_shim (s : State) : (s.endInstr).shim = s.shim := rfl
@[simp] theorem State.endInstr_log (s : State) : (s.endInstr).log = s.log := rfl

/-! ### 6507 -/

@[simp] theorem Cpu.setPC_a (w : Addr) (k : Cpu) : (k.setPC w).a = k.a := rfl
@[simp] theorem Cpu.setPC_x (w : Addr) (k : Cpu) : (k.setPC w).x = k.x := rfl
@[simp] theorem Cpu.setPC_y (w : Addr) (k : Cpu) : (k.setPC w).y = k.y := rfl
@[simp] theorem Cpu.setPC_sp (w : Addr) (k : Cpu) : (k.setPC w).sp = k.sp := rfl
@[simp] theorem Cpu.setPC_pc (w : Addr) (k : Cpu) : (k.setPC w).pc = w := rfl
@[simp] theorem Cpu.setPC_c (w : Addr) (k : Cpu) : (k.setPC w).c = k.c := rfl
@[simp] theorem Cpu.setPC_z (w : Addr) (k : Cpu) : (k.setPC w).z = k.z := rfl
@[simp] theorem Cpu.setPC_i (w : Addr) (k : Cpu) : (k.setPC w).i = k.i := rfl
@[simp] theorem Cpu.setPC_d (w : Addr) (k : Cpu) : (k.setPC w).d = k.d := rfl
@[simp] theorem Cpu.setPC_v (w : Addr) (k : Cpu) : (k.setPC w).v = k.v := rfl
@[simp] theorem Cpu.setPC_n (w : Addr) (k : Cpu) : (k.setPC w).n = k.n := rfl
@[simp] theorem Cpu.setPC_jammed (w : Addr) (k : Cpu) : (k.setPC w).jammed = k.jammed := rfl
@[simp] theorem Cpu.setPC_resetting (w : Addr) (k : Cpu) : (k.setPC w).resetting = k.resetting := rfl
@[simp] theorem Cpu.setPC_ir (w : Addr) (k : Cpu) : (k.setPC w).ir = k.ir := rfl
@[simp] theorem Cpu.setPC_t (w : Addr) (k : Cpu) : (k.setPC w).t = k.t := rfl
@[simp] theorem Cpu.setPC_adl (w : Addr) (k : Cpu) : (k.setPC w).adl = k.adl := rfl
@[simp] theorem Cpu.setPC_adh (w : Addr) (k : Cpu) : (k.setPC w).adh = k.adh := rfl
@[simp] theorem Cpu.setPC_bal (w : Addr) (k : Cpu) : (k.setPC w).bal = k.bal := rfl
@[simp] theorem Cpu.setPC_dl (w : Addr) (k : Cpu) : (k.setPC w).dl = k.dl := rfl
@[simp] theorem Cpu.setPC_fix (w : Addr) (k : Cpu) : (k.setPC w).fix = k.fix := rfl
@[simp] theorem Cpu.incPC_a (k : Cpu) : (k.incPC).a = k.a := rfl
@[simp] theorem Cpu.incPC_x (k : Cpu) : (k.incPC).x = k.x := rfl
@[simp] theorem Cpu.incPC_y (k : Cpu) : (k.incPC).y = k.y := rfl
@[simp] theorem Cpu.incPC_sp (k : Cpu) : (k.incPC).sp = k.sp := rfl
@[simp] theorem Cpu.incPC_pc (k : Cpu) : (k.incPC).pc = k.pc + 1 := rfl
@[simp] theorem Cpu.incPC_c (k : Cpu) : (k.incPC).c = k.c := rfl
@[simp] theorem Cpu.incPC_z (k : Cpu) : (k.incPC).z = k.z := rfl
@[simp] theorem Cpu.incPC_i (k : Cpu) : (k.incPC).i = k.i := rfl
@[simp] theorem Cpu.incPC_d (k : Cpu) : (k.incPC).d = k.d := rfl
@[simp] theorem Cpu.incPC_v (k : Cpu) : (k.incPC).v = k.v := rfl
@[simp] theorem Cpu.incPC_n (k : Cpu) : (k.incPC).n = k.n := rfl
@[simp] theorem Cpu.incPC_jammed (k : Cpu) : (k.incPC).jammed = k.jammed := rfl
@[simp] theorem Cpu.incPC_resetting (k : Cpu) : (k.incPC).resetting = k.resetting := rfl
@[simp] theorem Cpu.incPC_ir (k : Cpu) : (k.incPC).ir = k.ir := rfl
@[simp] theorem Cpu.incPC_t (k : Cpu) : (k.incPC).t = k.t := rfl
@[simp] theorem Cpu.incPC_adl (k : Cpu) : (k.incPC).adl = k.adl := rfl
@[simp] theorem Cpu.incPC_adh (k : Cpu) : (k.incPC).adh = k.adh := rfl
@[simp] theorem Cpu.incPC_bal (k : Cpu) : (k.incPC).bal = k.bal := rfl
@[simp] theorem Cpu.incPC_dl (k : Cpu) : (k.incPC).dl = k.dl := rfl
@[simp] theorem Cpu.incPC_fix (k : Cpu) : (k.incPC).fix = k.fix := rfl
@[simp] theorem Cpu.decSP_a (k : Cpu) : (k.decSP).a = k.a := rfl
@[simp] theorem Cpu.decSP_x (k : Cpu) : (k.decSP).x = k.x := rfl
@[simp] theorem Cpu.decSP_y (k : Cpu) : (k.decSP).y = k.y := rfl
@[simp] theorem Cpu.decSP_sp (k : Cpu) : (k.decSP).sp = k.sp - 1 := rfl
@[simp] theorem Cpu.decSP_pc (k : Cpu) : (k.decSP).pc = k.pc := rfl
@[simp] theorem Cpu.decSP_c (k : Cpu) : (k.decSP).c = k.c := rfl
@[simp] theorem Cpu.decSP_z (k : Cpu) : (k.decSP).z = k.z := rfl
@[simp] theorem Cpu.decSP_i (k : Cpu) : (k.decSP).i = k.i := rfl
@[simp] theorem Cpu.decSP_d (k : Cpu) : (k.decSP).d = k.d := rfl
@[simp] theorem Cpu.decSP_v (k : Cpu) : (k.decSP).v = k.v := rfl
@[simp] theorem Cpu.decSP_n (k : Cpu) : (k.decSP).n = k.n := rfl
@[simp] theorem Cpu.decSP_jammed (k : Cpu) : (k.decSP).jammed = k.jammed := rfl
@[simp] theorem Cpu.decSP_resetting (k : Cpu) : (k.decSP).resetting = k.resetting := rfl
@[simp] theorem Cpu.decSP_ir (k : Cpu) : (k.decSP).ir = k.ir := rfl
@[simp] theorem Cpu.decSP_t (k : Cpu) : (k.decSP).t = k.t := rfl
@[simp] theorem Cpu.decSP_adl (k : Cpu) : (k.decSP).adl = k.adl := rfl
@[simp] theorem Cpu.decSP_adh (k : Cpu) : (k.decSP).adh = k.adh := rfl
@[simp] theorem Cpu.decSP_bal (k : Cpu) : (k.decSP).bal = k.bal := rfl
@[simp] theorem Cpu.decSP_dl (k : Cpu) : (k.decSP).dl = k.dl := rfl
@[simp] theorem Cpu.decSP_fix (k : Cpu) : (k.decSP).fix = k.fix := rfl
@[simp] theorem Cpu.incSP_a (k : Cpu) : (k.incSP).a = k.a := rfl
@[simp] theorem Cpu.incSP_x (k : Cpu) : (k.incSP).x = k.x := rfl
@[simp] theorem Cpu.incSP_y (k : Cpu) : (k.incSP).y = k.y := rfl
@[simp] theorem Cpu.incSP_sp (k : Cpu) : (k.incSP).sp = k.sp + 1 := rfl
@[simp] theorem Cpu.incSP_pc (k : Cpu) : (k.incSP).pc = k.pc := rfl
@[simp] theorem Cpu.incSP_c (k : Cpu) : (k.incSP).c = k.c := rfl
@[simp] theorem Cpu.incSP_z (k : Cpu) : (k.incSP).z = k.z := rfl
@[simp] theorem Cpu.incSP_i (k : Cpu) : (k.incSP).i = k.i := rfl
@[simp] theorem Cpu.incSP_d (k : Cpu) : (k.incSP).d = k.d := rfl
@[simp] theorem Cpu.incSP_v (k : Cpu) : (k.incSP).v = k.v := rfl
@[simp] theorem Cpu.incSP_n (k : Cpu) : (k.incSP).n = k.n := rfl
@[simp] theorem Cpu.incSP_jammed (k : Cpu) : (k.incSP).jammed = k.jammed := rfl
@[simp] theorem Cpu.incSP_resetting (k : Cpu) : (k.incSP).resetting = k.resetting := rfl
@[simp] theorem Cpu.incSP_ir (k : Cpu) : (k.incSP).ir = k.ir := rfl
@[simp] theorem Cpu.incSP_t (k : Cpu) : (k.incSP).t = k.t := rfl
@[simp] theorem Cpu.incSP_adl (k : Cpu) : (k.incSP).adl = k.adl := rfl
@[simp] theorem Cpu.incSP_adh (k : Cpu) : (k.incSP).adh = k.adh := rfl
@[simp] theorem Cpu.incSP_bal (k : Cpu) : (k.incSP).bal = k.bal := rfl
@[simp] theorem Cpu.incSP_dl (k : Cpu) : (k.incSP).dl = k.dl := rfl
@[simp] theorem Cpu.incSP_fix (k : Cpu) : (k.incSP).fix = k.fix := rfl
@[simp] theorem Cpu.advanceT_a (k : Cpu) : (k.advanceT).a = k.a := rfl
@[simp] theorem Cpu.advanceT_x (k : Cpu) : (k.advanceT).x = k.x := rfl
@[simp] theorem Cpu.advanceT_y (k : Cpu) : (k.advanceT).y = k.y := rfl
@[simp] theorem Cpu.advanceT_sp (k : Cpu) : (k.advanceT).sp = k.sp := rfl
@[simp] theorem Cpu.advanceT_pc (k : Cpu) : (k.advanceT).pc = k.pc := rfl
@[simp] theorem Cpu.advanceT_c (k : Cpu) : (k.advanceT).c = k.c := rfl
@[simp] theorem Cpu.advanceT_z (k : Cpu) : (k.advanceT).z = k.z := rfl
@[simp] theorem Cpu.advanceT_i (k : Cpu) : (k.advanceT).i = k.i := rfl
@[simp] theorem Cpu.advanceT_d (k : Cpu) : (k.advanceT).d = k.d := rfl
@[simp] theorem Cpu.advanceT_v (k : Cpu) : (k.advanceT).v = k.v := rfl
@[simp] theorem Cpu.advanceT_n (k : Cpu) : (k.advanceT).n = k.n := rfl
@[simp] theorem Cpu.advanceT_jammed (k : Cpu) : (k.advanceT).jammed = k.jammed := rfl
@[simp] theorem Cpu.advanceT_resetting (k : Cpu) : (k.advanceT).resetting = k.resetting := rfl
@[simp] theorem Cpu.advanceT_ir (k : Cpu) : (k.advanceT).ir = k.ir := rfl
@[simp] theorem Cpu.advanceT_t (k : Cpu) : (k.advanceT).t = k.t + 1 := rfl
@[simp] theorem Cpu.advanceT_adl (k : Cpu) : (k.advanceT).adl = k.adl := rfl
@[simp] theorem Cpu.advanceT_adh (k : Cpu) : (k.advanceT).adh = k.adh := rfl
@[simp] theorem Cpu.advanceT_bal (k : Cpu) : (k.advanceT).bal = k.bal := rfl
@[simp] theorem Cpu.advanceT_dl (k : Cpu) : (k.advanceT).dl = k.dl := rfl
@[simp] theorem Cpu.advanceT_fix (k : Cpu) : (k.advanceT).fix = k.fix := rfl
@[simp] theorem Cpu.setNZ_a (w : Byte) (k : Cpu) : (k.setNZ w).a = k.a := rfl
@[simp] theorem Cpu.setNZ_x (w : Byte) (k : Cpu) : (k.setNZ w).x = k.x := rfl
@[simp] theorem Cpu.setNZ_y (w : Byte) (k : Cpu) : (k.setNZ w).y = k.y := rfl
@[simp] theorem Cpu.setNZ_sp (w : Byte) (k : Cpu) : (k.setNZ w).sp = k.sp := rfl
@[simp] theorem Cpu.setNZ_pc (w : Byte) (k : Cpu) : (k.setNZ w).pc = k.pc := rfl
@[simp] theorem Cpu.setNZ_c (w : Byte) (k : Cpu) : (k.setNZ w).c = k.c := rfl
@[simp] theorem Cpu.setNZ_z (w : Byte) (k : Cpu) : (k.setNZ w).z = (w == 0) := rfl
@[simp] theorem Cpu.setNZ_i (w : Byte) (k : Cpu) : (k.setNZ w).i = k.i := rfl
@[simp] theorem Cpu.setNZ_d (w : Byte) (k : Cpu) : (k.setNZ w).d = k.d := rfl
@[simp] theorem Cpu.setNZ_v (w : Byte) (k : Cpu) : (k.setNZ w).v = k.v := rfl
@[simp] theorem Cpu.setNZ_n (w : Byte) (k : Cpu) : (k.setNZ w).n = w.msb := rfl
@[simp] theorem Cpu.setNZ_jammed (w : Byte) (k : Cpu) : (k.setNZ w).jammed = k.jammed := rfl
@[simp] theorem Cpu.setNZ_resetting (w : Byte) (k : Cpu) : (k.setNZ w).resetting = k.resetting := rfl
@[simp] theorem Cpu.setNZ_ir (w : Byte) (k : Cpu) : (k.setNZ w).ir = k.ir := rfl
@[simp] theorem Cpu.setNZ_t (w : Byte) (k : Cpu) : (k.setNZ w).t = k.t := rfl
@[simp] theorem Cpu.setNZ_adl (w : Byte) (k : Cpu) : (k.setNZ w).adl = k.adl := rfl
@[simp] theorem Cpu.setNZ_adh (w : Byte) (k : Cpu) : (k.setNZ w).adh = k.adh := rfl
@[simp] theorem Cpu.setNZ_bal (w : Byte) (k : Cpu) : (k.setNZ w).bal = k.bal := rfl
@[simp] theorem Cpu.setNZ_dl (w : Byte) (k : Cpu) : (k.setNZ w).dl = k.dl := rfl
@[simp] theorem Cpu.setNZ_fix (w : Byte) (k : Cpu) : (k.setNZ w).fix = k.fix := rfl

/-! ### The shim -/

@[simp] theorem Shim.moveOn_pushed (sh : Shim) : sh.moveOn.pushed = sh.pushed := rfl
@[simp] theorem Shim.moveOn_busStuff (sh : Shim) : sh.moveOn.busStuff = sh.busStuff := rfl
@[simp] theorem Shim.moveOn_busStuffData (sh : Shim) : sh.moveOn.busStuffData = sh.busStuffData := rfl
@[simp] theorem Shim.moveOn_maskA (sh : Shim) : sh.moveOn.maskA = sh.maskA := rfl
@[simp] theorem Shim.moveOn_maskX (sh : Shim) : sh.moveOn.maskX = sh.maskX := rfl
@[simp] theorem Shim.moveOn_maskY (sh : Shim) : sh.moveOn.maskY = sh.maskY := rfl
@[simp] theorem Shim.moveOn_expectedAddr (sh : Shim) : sh.moveOn.expectedAddr = sh.expectedAddr := rfl
@[simp] theorem Shim.moveOn_running (sh : Shim) :
    sh.moveOn.running = { sh.running with state := sh.running.state + 1 } := rfl

/-- The end of a step's wait leaves the running function, the pushed one and the masks alone (R626, R628, R631). -/
theorem Shim.perform_frame (sh : Shim) (k : BusCycle) (st : ShimStep) :
    (sh.perform k st).running = sh.running ∧ (sh.perform k st).pushed = sh.pushed ∧
      (sh.perform k st).maskA = sh.maskA ∧ (sh.perform k st).maskX = sh.maskX ∧ (sh.perform k st).maskY = sh.maskY := by
  unfold Shim.perform
  refine ⟨?_, ?_, ?_, ?_, ?_⟩ <;> (split <;> split <;> (try split) <;> rfl)

/-! ### Requests of the driver -/

/-- What the mapper's own part of a reset can change: bank, cartridge RAM, variable memory and `variableMemTop`, the last two
on a coprocessor cartridge only (R700). -/
theorem State.mapperReset_frame (s : State) :
    (∃ bank ram, s.mapperReset.mapper = { s.mapper with bank := bank, cartRam := ram }) ∧
      (∃ var top, s.mapperReset.arm = { s.arm with varMem := var, variableMemTop := top }) ∧
      (s.mapper.variant ≠ .coproc → s.mapperReset.arm = s.arm) ∧
      { s.mapperReset with mapper := s.mapper, arm := s.arm } = s := by
  unfold State.mapperReset
  split
  · exact ⟨⟨_, _, rfl⟩, ⟨_, _, rfl⟩, fun _ => rfl, rfl⟩
  · dsimp only
    split
    · next h => exact ⟨⟨_, _, rfl⟩, ⟨_, _, rfl⟩, fun h' => absurd h h', rfl⟩
    · exact ⟨⟨_, _, rfl⟩, ⟨_, _, rfl⟩, fun _ => rfl, rfl⟩

/-- What a hard reset leaves (R700, R703 to R705). -/
theorem State.hardReset_spec (s : State) :
    s.hardReset.params = s.params ∧ s.hardReset.bus = s.bus ∧ s.hardReset.riot = s.riot ∧ s.hardReset.log = s.log ∧
      s.hardReset.cpu = { s.cpu with jammed := false, resetting := true, t := 0 } ∧ s.hardReset.tia = Tia.reset ∧
      s.hardReset.shim = Shim.reset ∧
      (∃ bank ram, s.hardReset.mapper =
        { s.mapper with bank := bank, cartRam := ram, triggered := false, armCarry := 0, debt := 0 }) ∧
      ∃ var top, s.hardReset.arm =
          { s.arm.machineReset s.params s.mapper.armImage with varMem := var, variableMemTop := top } ∧
        (s.mapper.variant ≠ .coproc → top = 0) := by
  unfold State.hardReset State.mapperReset
  dsimp only
  split
  · exact ⟨rfl, rfl, rfl, rfl, rfl, rfl, rfl, ⟨_, _, rfl⟩, _, _, rfl, fun _ => rfl⟩
  · refine ⟨rfl, rfl, rfl, rfl, rfl, rfl, rfl, ⟨_, _, rfl⟩, ?_⟩
    split
    · next h => exact ⟨_, _, rfl, fun h' => absurd h h'⟩
    · exact ⟨_, _, rfl, fun _ => rfl⟩

/-! ### ARM -/

@[simp] theorem Arm.setReg_r (i : AnyReg) (w : Word) (a : Arm) : (a.setReg i w).r = a.r.set i.toNat w i.isLt := rfl
@[simp] theorem Arm.setReg_n (i : AnyReg) (w : Word) (a : Arm) : (a.setReg i w).n = a.n := rfl
@[simp] theorem Arm.setReg_z (i : AnyReg) (w : Word) (a : Arm) : (a.setReg i w).z = a.z := rfl
@[simp] theorem Arm.setReg_c (i : AnyReg) (w : Word) (a : Arm) : (a.setReg i w).c = a.c := rfl
@[simp] theorem Arm.setReg_v (i : AnyReg) (w : Word) (a : Arm) : (a.setReg i w).v = a.v := rfl
@[simp] theorem Arm.setReg_executingPC (i : AnyReg) (w : Word) (a : Arm) : (a.setReg i w).executingPC = a.executingPC := rfl
@[simp] theorem Arm.setReg_instructionPC (i : AnyReg) (w : Word) (a : Arm) : (a.setReg i w).instructionPC = a.instructionPC := rfl
@[simp] theorem Arm.setReg_decode32 (i : AnyReg) (w : Word) (a : Arm) : (a.setReg i w).decode32 = a.decode32 := rfl
@[simp] theorem Arm.setReg_firstHalf (i : AnyReg) (w : Word) (a : Arm) : (a.setReg i w).firstHalf = a.firstHalf := rfl
@[simp] theorem Arm.setReg_yield (i : AnyReg) (w : Word) (a : Arm) : (a.setReg i w).yield = a.yield := rfl
@[simp] theorem Arm.setReg_skipBreak (i : AnyReg) (w : Word) (a : Arm) : (a.setReg i w).skipBreak = a.skipBreak := rfl
@[simp] theorem Arm.setReg_wrotePC (i : AnyReg) (w : Word) (a : Arm) : (a.setReg i w).wrotePC = a.wrotePC := rfl
@[simp] theorem Arm.setReg_instr (i : AnyReg) (w : Word) (a : Arm) : (a.setReg i w).instr = a.instr := rfl
@[simp] theorem Arm.setReg_instrUnits (i : AnyReg) (w : Word) (a : Arm) : (a.setReg i w).instrUnits = a.instrUnits := rfl
@[simp] theorem Arm.setReg_total (i : AnyReg) (w : Word) (a : Arm) : (a.setReg i w).total = a.total := rfl
@[simp] theorem Arm.setReg_cycles (i : AnyReg) (w : Word) (a : Arm) : (a.setReg i w).cycles = a.cycles := rfl
@[simp] theorem Arm.setReg_runUnits (i : AnyReg) (w : Word) (a : Arm) : (a.setReg i w).runUnits = a.runUnits := rfl
@[simp] theorem Arm.setReg_runInstrs (i : AnyReg) (w : Word) (a : Arm) : (a.setReg i w).runInstrs = a.runInstrs := rfl
@[simp] theorem Arm.setReg_lastWasI (i : AnyReg) (w : Word) (a : Arm) : (a.setReg i w).lastWasI = a.lastWasI := rfl
@[simp] theorem Arm.setReg_timer (i : AnyReg) (w : Word) (a : Arm) : (a.setReg i w).timer = a.timer := rfl
@[simp] theorem Arm.setReg_timer2 (i : AnyReg) (w : Word) (a : Arm) : (a.setReg i w).timer2 = a.timer2 := rfl
@[simp] theorem Arm.setReg_rngCount (i : AnyReg) (w : Word) (a : Arm) : (a.setReg i w).rngCount = a.rngCount := rfl
@[simp] theorem Arm.setReg_rngLast (i : AnyReg) (w : Word) (a : Arm) : (a.setReg i w).rngLast = a.rngLast := rfl
@[simp] theorem Arm.setReg_mamcr (i : AnyReg) (w : Word) (a : Arm) : (a.setReg i w).mamcr = a.mamcr := rfl
@[simp] theorem Arm.setReg_mamtim (i : AnyReg) (w : Word) (a : Arm) : (a.setReg i w).mamtim = a.mamtim := rfl
@[simp] theorem Arm.setReg_progMem (i : AnyReg) (w : Word) (a : Arm) : (a.setReg i w).progMem = a.progMem := rfl
@[simp] theorem Arm.setReg_varMem (i : AnyReg) (w : Word) (a : Arm) : (a.setReg i w).varMem = a.varMem := rfl
@[simp] theorem Arm.setReg_variableMemTop (i : AnyReg) (w : Word) (a : Arm) : (a.setReg i w).variableMemTop = a.variableMemTop := rfl
@[simp] theorem Arm.setReg_stackCheck (i : AnyReg) (w : Word) (a : Arm) : (a.setReg i w).stackCheck = a.stackCheck := rfl
@[simp] theorem Arm.setReg_interruptReq (i : AnyReg) (w : Word) (a : Arm) : (a.setReg i w).interruptReq = a.interruptReq := rfl
@[simp] theorem Arm.setReg_freeCount (i : AnyReg) (w : Word) (a : Arm) : (a.setReg i w).freeCount = a.freeCount := rfl
@[simp] theorem Arm.setNZ_r (w : Word) (a : Arm) : (a.setNZ w).r = a.r := rfl
@[simp] theorem Arm.setNZ_n (w : Word) (a : Arm) : (a.setNZ w).n = w.msb := rfl
@[simp] theorem Arm.setNZ_z (w : Word) (a : Arm) : (a.setNZ w).z = (w == 0) := rfl
@[simp] theorem Arm.setNZ_c (w : Word) (a : Arm) : (a.setNZ w).c = a.c := rfl
@[simp] theorem Arm.setNZ_v (w : Word) (a : Arm) : (a.setNZ w).v = a.v := rfl
@[simp] theorem Arm.setNZ_executingPC (w : Word) (a : Arm) : (a.setNZ w).executingPC = a.executingPC := rfl
@[simp] theorem Arm.setNZ_instructionPC (w : Word) (a : Arm) : (a.setNZ w).instructionPC = a.instructionPC := rfl
@[simp] theorem Arm.setNZ_decode32 (w : Word) (a : Arm) : (a.setNZ w).decode32 = a.decode32 := rfl
@[simp] theorem Arm.setNZ_firstHalf (w : Word) (a : Arm) : (a.setNZ w).firstHalf = a.firstHalf := rfl
@[simp] theorem Arm.setNZ_yield (w : Word) (a : Arm) : (a.setNZ w).yield = a.yield := rfl
@[simp] theorem Arm.setNZ_skipBreak (w : Word) (a : Arm) : (a.setNZ w).skipBreak = a.skipBreak := rfl
@[simp] theorem Arm.setNZ_wrotePC (w : Word) (a : Arm) : (a.setNZ w).wrotePC = a.wrotePC := rfl
@[simp] theorem Arm.setNZ_instr (w : Word) (a : Arm) : (a.setNZ w).instr = a.instr := rfl
@[simp] theorem Arm.setNZ_instrUnits (w : Word) (a : Arm) : (a.setNZ w).instrUnits = a.instrUnits := rfl
@[simp] theorem Arm.setNZ_total (w : Word) (a : Arm) : (a.setNZ w).total = a.total := rfl
@[simp] theorem Arm.setNZ_cycles (w : Word) (a : Arm) : (a.setNZ w).cycles = a.cycles := rfl
@[simp] theorem Arm.setNZ_runUnits (w : Word) (a : Arm) : (a.setNZ w).runUnits = a.runUnits := rfl
@[simp] theorem Arm.setNZ_runInstrs (w : Word) (a : Arm) : (a.setNZ w).runInstrs = a.runInstrs := rfl
@[simp] theorem Arm.setNZ_lastWasI (w : Word) (a : Arm) : (a.setNZ w).lastWasI = a.lastWasI := rfl
@[simp] theorem Arm.setNZ_timer (w : Word) (a : Arm) : (a.setNZ w).timer = a.timer := rfl
@[simp] theorem Arm.setNZ_timer2 (w : Word) (a : Arm) : (a.setNZ w).timer2 = a.timer2 := rfl
@[simp] theorem Arm.setNZ_rngCount (w : Word) (a : Arm) : (a.setNZ w).rngCount = a.rngCount := rfl
@[simp] theorem Arm.setNZ_rngLast (w : Word) (a : Arm) : (a.setNZ w).rngLast = a.rngLast := rfl
@[simp] theorem Arm.setNZ_mamcr (w : Word) (a : Arm) : (a.setNZ w).mamcr = a.mamcr := rfl
@[simp] theorem Arm.setNZ_mamtim (w : Word) (a : Arm) : (a.setNZ w).mamtim = a.mamtim := rfl
@[simp] theorem Arm.setNZ_progMem (w : Word) (a : Arm) : (a.setNZ w).progMem = a.progMem := rfl
@[simp] theorem Arm.setNZ_varMem (w : Word) (a : Arm) : (a.setNZ w).varMem = a.varMem := rfl
@[simp] theorem Arm.setNZ_variableMemTop (w : Word) (a : Arm) : (a.setNZ w).variableMemTop = a.variableMemTop := rfl
@[simp] theorem Arm.setNZ_stackCheck (w : Word) (a : Arm) : (a.setNZ w).stackCheck = a.stackCheck := rfl
@[simp] theorem Arm.setNZ_interruptReq (w : Word) (a : Arm) : (a.setNZ w).interruptReq = a.interruptReq := rfl
@[simp] theorem Arm.setNZ_freeCount (w : Word) (a : Arm) : (a.setNZ w).freeCount = a.freeCount := rfl
@[simp] theorem Arm.setC_r (b : Bool) (a : Arm) : (a.setC b).r = a.r := rfl
@[simp] theorem Arm.setC_n (b : Bool) (a : Arm) : (a.setC b).n = a.n := rfl
@[simp] theorem Arm.setC_z (b : Bool) (a : Arm) : (a.setC b).z = a.z := rfl
@[simp] theorem Arm.setC_c (b : Bool) (a : Arm) : (a.setC b).c = b := rfl
@[simp] theorem Arm.setC_v (b : Bool) (a : Arm) : (a.setC b).v = a.v := rfl
@[simp] theorem Arm.setC_executingPC (b : Bool) (a : Arm) : (a.setC b).executingPC = a.executingPC := rfl
@[simp] theorem Arm.setC_instructionPC (b : Bool) (a : Arm) : (a.setC b).instructionPC = a.instructionPC := rfl
@[simp] theorem Arm.setC_decode32 (b : Bool) (a : Arm) : (a.setC b).decode32 = a.decode32 := rfl
@[simp] theorem Arm.setC_firstHalf (b : Bool) (a : Arm) : (a.setC b).firstHalf = a.firstHalf := rfl
@[simp] theorem Arm.setC_yield (b : Bool) (a : Arm) : (a.setC b).yield = a.yield := rfl
@[simp] theorem Arm.setC_skipBreak (b : Bool) (a : Arm) : (a.setC b).skipBreak = a.skipBreak := rfl
@[simp] theorem Arm.setC_wrotePC (b : Bool) (a : Arm) : (a.setC b).wrotePC = a.wrotePC := rfl
@[simp] theorem Arm.setC_instr (b : Bool) (a : Arm) : (a.setC b).instr = a.instr := rfl
@[simp] theorem Arm.setC_instrUnits (b : Bool) (a : Arm) : (a.setC b).instrUnits = a.instrUnits := rfl
@[simp] theorem Arm.setC_total (b : Bool) (a : Arm) : (a.setC b).total = a.total := rfl
@[simp] theorem Arm.setC_cycles (b : Bool) (a : Arm) : (a.setC b).cycles = a.cycles := rfl
@[simp] theorem Arm.setC_runUnits (b : Bool) (a : Arm) : (a.setC b).runUnits = a.runUnits := rfl
@[simp] theorem Arm.setC_runInstrs (b : Bool) (a : Arm) : (a.setC b).runInstrs = a.runInstrs := rfl
@[simp] theorem Arm.setC_lastWasI (b : Bool) (a : Arm) : (a.setC b).lastWasI = a.lastWasI := rfl
@[simp] theorem Arm.setC_timer (b : Bool) (a : Arm) : (a.setC b).timer = a.timer := rfl
@[simp] theorem Arm.setC_timer2 (b : Bool) (a : Arm) : (a.setC b).timer2 = a.timer2 := rfl
@[simp] theorem Arm.setC_rngCount (b : Bool) (a : Arm) : (a.setC b).rngCount = a.rngCount := rfl
@[simp] theorem Arm.setC_rngLast (b : Bool) (a : Arm) : (a.setC b).rngLast = a.rngLast := rfl
@[simp] theorem Arm.setC_mamcr (b : Bool) (a : Arm) : (a.setC b).mamcr = a.mamcr := rfl
@[simp] theorem Arm.setC_mamtim (b : Bool) (a : Arm) : (a.setC b).mamtim = a.mamtim := rfl
@[simp] theorem Arm.setC_progMem (b : Bool) (a : Arm) : (a.setC b).progMem = a.progMem := rfl
@[simp] theorem Arm.setC_varMem (b : Bool) (a : Arm) : (a.setC b).varMem = a.varMem := rfl
@[simp] theorem Arm.setC_variableMemTop (b : Bool) (a : Arm) : (a.setC b).variableMemTop = a.variableMemTop := rfl
@[simp] theorem Arm.setC_stackCheck (b : Bool) (a : Arm) : (a.setC b).stackCheck = a.stackCheck := rfl
@[simp] theorem Arm.setC_interruptReq (b : Bool) (a : Arm) : (a.setC b).interruptReq = a.interruptReq := rfl
@[simp] theorem Arm.setC_freeCount (b : Bool) (a : Arm) : (a.setC b).freeCount = a.freeCount := rfl
@[simp] theorem Arm.setNZCV_r (w : ArmOut) (a : Arm) : (a.setNZCV w).r = a.r := rfl
@[simp] theorem Arm.setNZCV_n (w : ArmOut) (a : Arm) : (a.setNZCV w).n = w.n := rfl
@[simp] theorem Arm.setNZCV_z (w : ArmOut) (a : Arm) : (a.setNZCV w).z = w.z := rfl
@[simp] theorem Arm.setNZCV_c (w : ArmOut) (a : Arm) : (a.setNZCV w).c = w.c := rfl
@[simp] theorem Arm.setNZCV_v (w : ArmOut) (a : Arm) : (a.setNZCV w).v = w.v := rfl
@[simp] theorem Arm.setNZCV_executingPC (w : ArmOut) (a : Arm) : (a.setNZCV w).executingPC = a.executingPC := rfl
@[simp] theorem Arm.setNZCV_instructionPC (w : ArmOut) (a : Arm) : (a.setNZCV w).instructionPC = a.instructionPC := rfl
@[simp] theorem Arm.setNZCV_decode32 (w : ArmOut) (a : Arm) : (a.setNZCV w).decode32 = a.decode32 := rfl
@[simp] theorem Arm.setNZCV_firstHalf (w : ArmOut) (a : Arm) : (a.setNZCV w).firstHalf = a.firstHalf := rfl
@[simp] theorem Arm.setNZCV_yield (w : ArmOut) (a : Arm) : (a.setNZCV w).yield = a.yield := rfl
@[simp] theorem Arm.setNZCV_skipBreak (w : ArmOut) (a : Arm) : (a.setNZCV w).skipBreak = a.skipBreak := rfl
@[simp] theorem Arm.setNZCV_wrotePC (w : ArmOut) (a : Arm) : (a.setNZCV w).wrotePC = a.wrotePC := rfl
@[simp] theorem Arm.setNZCV_instr (w : ArmOut) (a : Arm) : (a.setNZCV w).instr = a.instr := rfl
@[simp] theorem Arm.setNZCV_instrUnits (w : ArmOut) (a : Arm) : (a.setNZCV w).instrUnits = a.instrUnits := rfl
@[simp] theorem Arm.setNZCV_total (w : ArmOut) (a : Arm) : (a.setNZCV w).total = a.total := rfl
@[simp] theorem Arm.setNZCV_cycles (w : ArmOut) (a : Arm) : (a.setNZCV w).cycles = a.cycles := rfl
@[simp] theorem Arm.setNZCV_runUnits (w : ArmOut) (a : Arm) : (a.setNZCV w).runUnits = a.runUnits := rfl
@[simp] theorem Arm.setNZCV_runInstrs (w : ArmOut) (a : Arm) : (a.setNZCV w).runInstrs = a.runInstrs := rfl
@[simp] theorem Arm.setNZCV_lastWasI (w : ArmOut) (a : Arm) : (a.setNZCV w).lastWasI = a.lastWasI := rfl
@[simp] theorem Arm.setNZCV_timer (w : ArmOut) (a : Arm) : (a.setNZCV w).timer = a.timer := rfl
@[simp] theorem Arm.setNZCV_timer2 (w : ArmOut) (a : Arm) : (a.setNZCV w).timer2 = a.timer2 := rfl
@[simp] theorem Arm.setNZCV_rngCount (w : ArmOut) (a : Arm) : (a.setNZCV w).rngCount = a.rngCount := rfl
@[simp] theorem Arm.setNZCV_rngLast (w : ArmOut) (a : Arm) : (a.setNZCV w).rngLast = a.rngLast := rfl
@[simp] theorem Arm.setNZCV_mamcr (w : ArmOut) (a : Arm) : (a.setNZCV w).mamcr = a.mamcr := rfl
@[simp] theorem Arm.setNZCV_mamtim (w : ArmOut) (a : Arm) : (a.setNZCV w).mamtim = a.mamtim := rfl
@[simp] theorem Arm.setNZCV_progMem (w : ArmOut) (a : Arm) : (a.setNZCV w).progMem = a.progMem := rfl
@[simp] theorem Arm.setNZCV_varMem (w : ArmOut) (a : Arm) : (a.setNZCV w).varMem = a.varMem := rfl
@[simp] theorem Arm.setNZCV_variableMemTop (w : ArmOut) (a : Arm) : (a.setNZCV w).variableMemTop = a.variableMemTop := rfl
@[simp] theorem Arm.setNZCV_stackCheck (w : ArmOut) (a : Arm) : (a.setNZCV w).stackCheck = a.stackCheck := rfl
@[simp] theorem Arm.setNZCV_interruptReq (w : ArmOut) (a : Arm) : (a.setNZCV w).interruptReq = a.interruptReq := rfl
@[simp] theorem Arm.setNZCV_freeCount (w : ArmOut) (a : Arm) : (a.setNZCV w).freeCount = a.freeCount := rfl

/-- A register read after a write. -/
theorem Arm.reg_setReg (i j : AnyReg) (w : Word) (a : Arm) : (a.setReg i w).reg j = if j = i then w else a.reg j := by
  simp only [Arm.reg, Arm.setReg, Vector.getElem_set]
  by_cases h : j = i
  · simp [h]
  · have : i.toNat ≠ j.toNat := fun e => h (BitVec.eq_of_toNat_eq e.symm)
    simp [h, this]

end Sys2Proof.Machine
end

