-- ==== Sys2Proof/Laws/Arm.lean ====
section
/-! SUPPORT. What each shared operation of the ARM can do: registers, cycle charges, the memory chain, multiple transfers, the
stack check. -/

namespace Sys2Proof.Machine

/-! ### Registers -/

theorem lowReg_toNat (i : LowReg) : (lowReg i).toNat = i.toNat := by
  unfold lowReg; rw [BitVec.toNat_setWidth]; have := i.isLt; omega

theorem lowReg_ne_13 (i : LowReg) : lowReg i ≠ 13 := by
  intro h; have := congrArg BitVec.toNat h; rw [lowReg_toNat] at this; have := i.isLt; simp at *; omega

theorem lowReg_ne_15 (i : LowReg) : lowReg i ≠ 15 := by
  intro h; have := congrArg BitVec.toNat h; rw [lowReg_toNat] at this; have := i.isLt; simp at *; omega

/-! ### States alike but for registers, flags and the accounts of the instruction in progress -/

/-- Two states alike but for the accounts of the ARM instruction in progress. -/
structure SameButCycles (s t : State) : Prop where
  regs : t.arm.r = s.arm.r
  flags : t.armFlags = s.armFlags
  rest : t.sansRegs = s.sansRegs

theorem SameButCycles.rfl' {s : State} : SameButCycles s s := ⟨rfl, rfl, rfl⟩

theorem SameButCycles.trans {s t u : State} (h : SameButCycles s t) (k : SameButCycles t u) : SameButCycles s u :=
  ⟨k.regs.trans h.regs, k.flags.trans h.flags, k.rest.trans h.rest⟩

theorem SameButCycles.reg {s t : State} (h : SameButCycles s t) (j : AnyReg) : t.reg j = s.reg j := by
  unfold State.reg Arm.reg; simp only [h.regs]

theorem SameButCycles.low {s t : State} (h : SameButCycles s t) (j : LowReg) : t.low j = s.low j := h.reg _

/-- What `sansRegs` keeps of a state. -/
structure RestAlike (s t : State) : Prop where
  params : t.params = s.params
  cpu : t.cpu = s.cpu
  log : t.log = s.log
  executingPC : t.arm.executingPC = s.arm.executingPC
  yield : t.arm.yield = s.arm.yield
  progMem : t.arm.progMem = s.arm.progMem
  varMem : t.arm.varMem = s.arm.varMem
  timer : t.arm.timer = s.arm.timer
  timer2 : t.arm.timer2 = s.arm.timer2
  rngCount : t.arm.rngCount = s.arm.rngCount
  mamcr : t.arm.mamcr = s.arm.mamcr
  mamtim : t.arm.mamtim = s.arm.mamtim
  stackCheck : t.arm.stackCheck = s.arm.stackCheck
  variableMemTop : t.arm.variableMemTop = s.arm.variableMemTop

theorem RestAlike.of_sansRegs {s t : State} (h : t.sansRegs = s.sansRegs) : RestAlike s t := by
  obtain ⟨h1, h2, h3, h4, h5, h6, h7, h8, h9⟩ := State.mk.inj h
  obtain ⟨-, -, -, -, -, a6, -, -, -, a10, -, -, -, -, -, -, -, -, -, a20, a21, a22, -, a24, a25, a26, a27, a28, a29, -, -⟩ :=
    Arm.mk.inj h7
  exact ⟨h1, h2, h9, a6, a10, a26, a27, a20, a21, a22, a24, a25, a29, a28⟩

/-- Cycle charges touch the accounts alone. -/
theorem State.charge_same (ks : List ArmCycle) (s : State) : SameButCycles s (s.charge ks) := by
  have : ∀ (p : Params) (ks : List ArmCycle) (a : Arm), ∃ i u l, ks.foldl (Arm.charge p) a =
      { a with instr := i, instrUnits := u, lastWasI := l } := by
    intro p ks
    induction ks with
    | nil => intro a; exact ⟨_, _, _, rfl⟩
    | cons k ks ih => intro a; obtain ⟨i, u, l, h⟩ := ih (Arm.charge p a k); exact ⟨i, u, l, by rw [List.foldl_cons, h]; rfl⟩
  obtain ⟨i, u, l, h⟩ := this s.params ks s.arm
  have e : s.charge ks = { s with arm := ks.foldl (Arm.charge s.params) s.arm } := rfl
  rw [e, h]
  exact ⟨rfl, rfl, rfl⟩

/-! ### The memory chain -/

/-- A read of the chain answers the same value in states that are alike, and leaves them alike; it changes no register, flag or
memory. -/
theorem State.armRead_congr {s t : State} (h : SameButCycles s t) (a : Word) (n : Nat) :
    (t.armRead a n).1 = (s.armRead a n).1 ∧ SameButCycles (s.armRead a n).2 (t.armRead a n).2 := by
  obtain ⟨h1, h2, h3⟩ := h
  have hr := RestAlike.of_sansRegs h3
  have hil : ∀ b, SameButCycles (s.armIllegal b a) (t.armIllegal b a) := by
    intro b
    refine ⟨?_, ?_, ?_⟩
    · unfold State.armIllegal; rw [hr.params]; split <;> exact h1
    · unfold State.armIllegal State.armFlags; rw [hr.params]; split <;> exact h2
    · have e : t.sansRegs.armIllegal b a = s.sansRegs.armIllegal b a := by rw [h3]
      have k : ∀ w : State, (w.armIllegal b a).sansRegs = (w.sansRegs.armIllegal b a).sansRegs := by
        intro w; unfold State.armIllegal State.sansRegs; dsimp only; split <;> rfl
      rw [k t, k s, e]
  unfold State.armRead
  rw [hr.params, hr.progMem, hr.varMem]
  split
  · exact ⟨rfl, hil true⟩
  split
  · exact ⟨rfl, h1, h2, h3⟩
  split
  · exact ⟨rfl, h1, h2, h3⟩
  split
  · rename_i r _
    have k : ∀ w : State, ({ w with arm := (w.arm.periphRead r n).2 } : State).sansRegs =
        ({ w.sansRegs with arm := (w.sansRegs.arm.periphRead r n).2 } : State).sansRegs := by
      intro w; cases r <;> rfl
    have k' : ({ t with arm := (t.arm.periphRead r n).2 } : State).sansRegs =
        ({ s with arm := (s.arm.periphRead r n).2 } : State).sansRegs := by rw [k t, k s, h3]
    refine ⟨?_, ?_, ?_, ?_⟩
    · cases r <;> simp only [Arm.periphRead, hr.timer, hr.timer2, hr.rngCount, hr.mamcr, hr.mamtim]
    · cases r <;> exact h1
    · cases r <;> exact h2
    · rw [hr.params] at k'; exact k'
  · exact ⟨rfl, hil true⟩

/-- A read of the chain leaves registers and flags alone. -/
theorem State.armRead_regs (s : State) (a : Word) (n : Nat) :
    (s.armRead a n).2.arm.r = s.arm.r ∧ (s.armRead a n).2.armFlags = s.armFlags := by
  unfold State.armRead
  split
  · unfold State.armIllegal State.armFlags; dsimp only; split <;> exact ⟨rfl, rfl⟩
  split
  · exact ⟨rfl, rfl⟩
  split
  · exact ⟨rfl, rfl⟩
  split
  · rename_i r _; cases r <;> exact ⟨rfl, rfl⟩
  · unfold State.armIllegal State.armFlags; dsimp only; split <;> exact ⟨rfl, rfl⟩

/-- A write of the chain acts alike on states that are alike. -/
theorem State.armWrite_congr {s t : State} (h : SameButCycles s t) (a : Word) (n : Nat) (v : Word) :
    SameButCycles (s.armWrite a n v) (t.armWrite a n v) := by
  obtain ⟨h1, h2, h3⟩ := h
  have hr := RestAlike.of_sansRegs h3
  have hil : SameButCycles (s.armIllegal false a) (t.armIllegal false a) := by
    refine ⟨?_, ?_, ?_⟩
    · unfold State.armIllegal; rw [hr.params]; split <;> exact h1
    · unfold State.armIllegal State.armFlags; rw [hr.params]; split <;> exact h2
    · have e : t.sansRegs.armIllegal false a = s.sansRegs.armIllegal false a := by rw [h3]
      have k : ∀ w : State, (w.armIllegal false a).sansRegs = (w.sansRegs.armIllegal false a).sansRegs := by
        intro w; unfold State.armIllegal State.sansRegs; dsimp only; split <;> rfl
      rw [k t, k s, e]
  have hm : ∀ f : Arm → Arm, (∀ b, (f b).r = b.r ∧ (f b).n = b.n ∧ (f b).z = b.z ∧ (f b).c = b.c ∧ (f b).v = b.v) →
      (∀ w : State, (w.mapArm f).sansRegs = (w.sansRegs.mapArm f).sansRegs) → SameButCycles (s.mapArm f) (t.mapArm f) := by
    intro f hf k
    refine ⟨(hf _).1.trans (h1.trans (hf _).1.symm), ?_, by rw [k t, k s, h3]⟩
    show ArmFlags.mk _ _ _ _ = ArmFlags.mk _ _ _ _
    obtain ⟨f1, f2, f3, f4⟩ := ArmFlags.mk.inj h2
    have := hf t.arm; have := hf s.arm
    simp_all [State.mapArm]
  unfold State.armWrite
  rw [hr.params]
  split
  · exact hil
  split
  · exact hm _ (fun _ => ⟨rfl, rfl, rfl, rfl, rfl⟩) (fun _ => rfl)
  split
  · split
    · exact hm _ (fun _ => ⟨rfl, rfl, rfl, rfl, rfl⟩) (fun _ => rfl)
    · exact hil
  split
  · rename_i r _
    refine hm _ (fun b => by cases r <;> exact ⟨rfl, rfl, rfl, rfl, rfl⟩) (fun w => by cases r <;> rfl)
  · exact hil

/-- A write of the chain leaves registers and flags alone. -/
theorem State.armWrite_regs (s : State) (a : Word) (n : Nat) (v : Word) :
    (s.armWrite a n v).arm.r = s.arm.r ∧ (s.armWrite a n v).armFlags = s.armFlags := by
  unfold State.armWrite
  split
  · unfold State.armIllegal State.armFlags; dsimp only; split <;> exact ⟨rfl, rfl⟩
  split
  · exact ⟨rfl, rfl⟩
  split
  · split
    · exact ⟨rfl, rfl⟩
    · unfold State.armIllegal State.armFlags; dsimp only; split <;> exact ⟨rfl, rfl⟩
  split
  · rename_i r _; cases r <;> exact ⟨rfl, rfl⟩
  · unfold State.armIllegal State.armFlags; dsimp only; split <;> exact ⟨rfl, rfl⟩

/-! ### Shapes -/

/-- A state changed in one register. -/
theorem State.reg_setLow (i : LowReg) (v : Word) (s : State) (j : AnyReg) :
    (s.setLow i v).reg j = withReg (lowReg i) v s.reg j := Arm.reg_setReg _ _ _ _

/-- An ARM data instruction: cycles charged, one register and flags changed. -/
theorem ArmEffect.of_setReg {s u : State} (h : SameButCycles s u) (i : AnyReg) (v : Word) (f : ArmFlags) {t : State}
    (ht : t = u.mapArm (fun a => { a.setReg i v with n := f.n, z := f.z, c := f.c, v := f.v })) :
    ArmEffect s t (withReg i v s.reg) f := by
  subst ht
  refine ⟨fun j => ?_, rfl, ?_⟩
  · have := Arm.reg_setReg i j v u.arm
    show (u.arm.setReg i v).reg j = _
    rw [this]; unfold withReg; rw [show u.arm.reg j = s.reg j from h.reg j]
  · rw [← h.rest]; rfl

/-- An ARM instruction that changes flags alone. -/
theorem ArmEffect.of_flags {s u : State} (h : SameButCycles s u) (f : ArmFlags) {t : State}
    (ht : t = u.mapArm (fun a => { a with n := f.n, z := f.z, c := f.c, v := f.v })) : ArmEffect s t s.reg f := by
  subst ht
  exact ⟨fun j => h.reg j, rfl, by rw [← h.rest]; rfl⟩

/-- A PC write. -/
theorem ArmJump.of_writePC {s u : State} (h : SameButCycles s u) (target : Word) :
    ArmJump s (u.mapArm (Arm.writePC target)) s.reg target := by
  refine ⟨fun j => ?_, h.flags, ?_⟩
  · have := Arm.reg_setReg 15 j (target &&& 0xFFFFFFFE) u.arm
    show (u.arm.setReg 15 (target &&& 0xFFFFFFFE)).reg j = _
    rw [this]; unfold withReg; rw [show u.arm.reg j = s.reg j from h.reg j]
  · have e : ∀ w : State, (w.mapArm (Arm.writePC target)).sansRegs =
        ({ w.sansRegs with arm := { w.sansRegs.arm with wrotePC := true } } : State).sansRegs := fun _ => rfl
    rw [e, h.rest]; rfl

/-- The stack check is R494's. -/
theorem State.stackCheck_eq (s : State) : s.stackCheck = s.checkedSp (s.reg 13) := by
  unfold State.stackCheck State.checkedSp State.collides State.reg
  simp [and_assoc]

/-! ### What each shape of instruction does -/

theorem msb_eq_bit31 (r : BitVec 32) : r.msb = r.getLsbD 31 := by rw [BitVec.msb_eq_getLsbD_last]

theorem Arm.setNZ_eq (r : Word) (a : Arm) : a.setNZ r = { a with n := r.getLsbD 31, z := decide (r = 0) } := by
  unfold Arm.setNZ; rw [msb_eq_bit31]; congr

theorem State.charge1S_same (s : State) : SameButCycles s s.charge1S := State.charge_same _ _
theorem State.charge1SI_same (k : Nat) (s : State) : SameButCycles s (s.charge1SI k) := State.charge_same _ _

theorem ArmEffect.thumbLogic {s u : State} (h : SameButCycles s u) (rd : LowReg) (r : Word) :
    ArmEffect s (u.thumbLogic rd r) (withReg (lowReg rd) r s.reg) (flagsNZ32 r s.arm.c s.arm.v) := by
  apply ArmEffect.of_setReg h (t := u.thumbLogic rd r)
  obtain ⟨f1, f2, f3, f4⟩ := ArmFlags.mk.inj h.flags
  unfold State.thumbLogic State.mapArm
  simp only [Arm.setNZ_eq, flagsNZ32]
  rw [← f3, ← f4]; rfl

theorem ArmEffect.thumbShift {s u : State} (h : SameButCycles s u) (rd : LowReg) (rc : Word × Bool) :
    ArmEffect s (u.thumbShift rd rc) (withReg (lowReg rd) rc.1 s.reg) (flagsNZ32 rc.1 rc.2 s.arm.v) := by
  apply ArmEffect.of_setReg h (t := u.thumbShift rd rc)
  obtain ⟨f1, f2, f3, f4⟩ := ArmFlags.mk.inj h.flags
  unfold State.thumbShift State.mapArm
  simp only [Arm.setNZ_eq, flagsNZ32]
  rw [← f4]; rfl

theorem ArmEffect.thumbArith {s u : State} (h : SameButCycles s u) (rd : LowReg) (o : ArmOut) :
    ArmEffect s (u.thumbArith rd o) (withReg (lowReg rd) o.r s.reg) ⟨o.n, o.z, o.c, o.v⟩ :=
  ArmEffect.of_setReg h (t := u.thumbArith rd o) _ _ _ rfl

theorem ArmEffect.thumbCompare {s u : State} (h : SameButCycles s u) (o : ArmOut) :
    ArmEffect s (u.thumbCompare o) s.reg ⟨o.n, o.z, o.c, o.v⟩ :=
  ArmEffect.of_flags h (t := u.thumbCompare o) _ rfl

theorem ArmEffect.setReg {s u : State} (h : SameButCycles s u) (i : AnyReg) (v : Word) :
    ArmEffect s (u.mapArm (Arm.setReg i v)) (withReg i v s.reg) s.armFlags := by
  rw [← h.flags]
  exact ArmEffect.of_setReg h i v u.armFlags rfl

theorem State.setRegChecked_sp {s u : State} (h : SameButCycles s u) (v : Word) :
   (∀ j, (u.setRegChecked 13 v).reg j = withReg 13 v s.reg j) ∧ (u.setRegChecked 13 v).armFlags = s.armFlags ∧
      (u.setRegChecked 13 v).sansRegs = (s.checkedSp v).sansRegs := by
  obtain ⟨h1, h2, h3⟩ := ArmEffect.setReg h 13 v
  have e : (u.setRegChecked 13 v) = (u.mapArm (Arm.setReg 13 v)).checkedSp v := by
    unfold State.setRegChecked; dsimp only; rw [if_pos rfl, State.stackCheck_eq]
    congr 1
    rw [h1]; simp [withReg]
  rw [e]
  generalize u.mapArm (Arm.setReg 13 v) = w at *
  have hr := RestAlike.of_sansRegs h3
  have hc : w.collides v = s.collides v := by
    unfold State.collides; rw [hr.stackCheck, hr.variableMemTop, hr.params]
  have k : ∀ w : State, (w.checkedSp v).sansRegs = (w.sansRegs.checkedSp v).sansRegs := by
    intro w
    unfold State.checkedSp
    have : w.sansRegs.collides v = w.collides v := rfl
    rw [this]; split <;> rfl
  refine ⟨fun j => ?_, ?_, by rw [k w, k s, h3]⟩
  · rw [← h1]; unfold State.checkedSp; split <;> rfl
  · rw [← h2]; unfold State.checkedSp; split <;> rfl

/-! ### Words in memory -/

/-- A word written is read back. -/
theorem Memory.readLE_writeLE {m : Memory} (h : m.wf = true) (k n v : Nat) :
    (m.writeLE k n v).readLE k n = v % 256 ^ n := by
  induction n generalizing m k v with
  | zero => simp [Memory.readLE, Nat.mod_one]
  | succ n ih =>
    simp only [Memory.writeLE, Memory.readLE]
    rw [ih (Memory.wf_write h _ _), Memory.read_writeLE_outside _ _ _ (by omega), Memory.read_write_same h]
    rw [BitVec.toNat_ofNat, show 256 ^ (n + 1) = 256 * 256 ^ n by rw [Nat.pow_succ, Nat.mul_comm], Nat.mod_mul]

end Sys2Proof.Machine
end

