-- ==== Sys2Proof/Laws/Tia.lean ====
section
/-! SUPPORT. The TIA: ticks add up; no tick adds an event; which events a tick leaves. -/

namespace Sys2Proof.Machine

/-- Ticks add up. -/
theorem Tia.ticks_add (p : Params) (a b : Nat) (t : Tia) : t.ticks p (a + b) = (t.ticks p a).ticks p b := by
  induction a generalizing t with
  | zero => simp [Tia.ticks]
  | succ a ih => rw [Nat.succ_add]; exact ih _

@[simp] theorem Tia.ticks_zero (p : Params) (t : Tia) : t.ticks p 0 = t := rfl

/-! ### Event lists -/

/-- Two TIA states with the same live events. -/
def Tia.SameEvents (t u : Tia) : Prop := ∀ g, u.eventsOf g = t.eventsOf g

theorem Tia.SameEvents.rfl' {t : Tia} : t.SameEvents t := fun _ => rfl

theorem Tia.SameEvents.trans {t u w : Tia} (h : t.SameEvents u) (k : u.SameEvents w) : t.SameEvents w :=
  fun g => (k g).trans (h g)

/-- A replaced sprite with the same events changes no event list. -/
theorem Tia.sameEvents_setSprite (t : Tia) (s : SpriteId) (sp : Sprite) (h : sp.events = (t.sprite s).events) :
    t.SameEvents (t.setSprite s sp) := by
  intro g
  cases s <;> rcases g with _ | s' | _ <;> (try rfl) <;> cases s' <;> first | rfl | exact h

theorem Tia.sameEvents_foldl {α : Type} (f : Tia → α → Tia) (l : List α) (h : ∀ (t : Tia) (a : α), t.SameEvents (f t a))
    (t : Tia) : t.SameEvents (l.foldl f t) := by
  induction l generalizing t with
  | nil => exact Tia.SameEvents.rfl'
  | cons a l ih => exact (h t a).trans (ih _)

theorem Sprite.tick_events (sh : SpriteShape) (sp : Sprite) : (sp.tick sh).events = sp.events := by
  unfold Sprite.tick Sprite.advanceCounter Sprite.advancePhase
  dsimp only
  split <;> (try split) <;> (try split) <;> (try split) <;> rfl

theorem Tia.sameEvents_moveHmoved (k : Nat) (s : SpriteId) (t : Tia) : t.SameEvents (t.moveHmoved k s) :=
  Tia.sameEvents_setSprite _ _ _ rfl

theorem Tia.sameEvents_lockMissile (t : Tia) (s : SpriteId) : t.SameEvents (t.lockMissile s) := by
  cases s <;> simp only [Tia.lockMissile] <;> (try split) <;>
    first | exact Tia.SameEvents.rfl' | exact Tia.sameEvents_setSprite _ _ _ rfl

theorem Tia.sameEvents_tickSprite (p : Params) (s : SpriteId) (t : Tia) : t.SameEvents (t.tickSprite p s) := by
  have h := Tia.sameEvents_setSprite t s ((t.sprite s).tick (t.shape p s)) (Sprite.tick_events _ _)
  unfold Tia.tickSprite
  dsimp only
  split
  · exact h.trans (Tia.sameEvents_lockMissile _ _)
  · exact h

theorem Tia.sameEvents_rippleSprite (p : Params) (ct : Nat) (t : Tia) (s : SpriteId) :
    t.SameEvents (t.rippleSprite p ct s) := by
  unfold Tia.rippleSprite
  dsimp only
  have h := Tia.sameEvents_setSprite t s
    { t.sprite s with moreHmove := (t.sprite s).moreHmove && (((t.sprite s).hm ^^^ 7).toNat != ct) } rfl
  split
  · exact (h.trans (Tia.sameEvents_tickSprite p s _)).trans (Tia.sameEvents_moveHmoved _ _ _)
  · exact h

theorem Tia.sameEvents_decodeLine (t : Tia) : t.SameEvents t.decodeLine := by
  unfold Tia.decodeLine
  split_ifs
  · intro g; cases g <;> rfl
  · intro g; cases g <;> rfl
  · intro g; cases g <;> rfl
  · exact Tia.SameEvents.rfl'
  · intro g; cases g <;> rfl
  · refine Tia.SameEvents.trans (u := { t with hblank := false }) (fun g => by cases g <;> rfl) ?_
    exact Tia.sameEvents_foldl _ _ (fun t s => Tia.sameEvents_moveHmoved 8 s t) _
  · exact Tia.SameEvents.rfl'
  · exact Tia.SameEvents.rfl'

theorem Tia.sameEvents_rippleStage (p : Params) (t : Tia) : t.SameEvents (t.rippleStage p) := by
  unfold Tia.rippleStage
  split
  · unfold Tia.ripple
    dsimp only
    refine (Tia.sameEvents_foldl _ spriteOrder (Tia.sameEvents_rippleSprite p _) t).trans (fun g => by cases g <;> rfl)
  · exact Tia.SameEvents.rfl'

theorem Tia.sameEvents_spriteStage (p : Params) (t : Tia) : t.SameEvents (t.spriteStage p) := by
  unfold Tia.spriteStage
  split
  · exact Tia.SameEvents.rfl'
  · exact Tia.sameEvents_foldl _ _ (fun t s => Tia.sameEvents_tickSprite p s t) _

/-- What precedes `tickAll()` in a tick changes no event list. -/
theorem Tia.sameEvents_tick_stages (p : Params) (t : Tia) :
    t.SameEvents (((t.clock.decodeLine.rippleStage p).spriteStage p).emit) := by
  refine Tia.SameEvents.trans (u := t.clock) (fun g => by cases g <;> rfl) ?_
  refine (Tia.sameEvents_decodeLine _).trans ((Tia.sameEvents_rippleStage p _).trans ?_)
  exact (Tia.sameEvents_spriteStage p _).trans (fun g => by cases g <;> rfl)

/-- A register taking effect schedules nothing. -/
theorem Tia.sameEvents_applyRegister (t : Tia) (r : TiaReg) (v : Byte) : t.SameEvents (t.applyRegister r v) := by
  cases r
  case hmove =>
    exact (Tia.sameEvents_foldl _ spriteOrder
      (fun t s => Tia.sameEvents_setSprite t s { t.sprite s with moreHmove := true } rfl) t).trans
      (fun g => by cases g <;> rfl)
  case hmclr =>
    exact Tia.sameEvents_foldl _ spriteOrder (fun t s => Tia.sameEvents_setSprite t s { t.sprite s with hm := 0 } rfl) t
  all_goals
    intro g
    rcases g with _ | s | _
    · rfl
    · cases s <;> rfl
    · rfl

theorem Tia.sameEvents_applyPayload (t : Tia) (pl : Payload) : t.SameEvents (t.applyPayload pl) := by
  cases pl with
  | register r v => exact Tia.sameEvents_applyRegister t r v
  | resetPos s => exact Tia.sameEvents_setSprite _ _ _ rfl

theorem Tia.eventsOf_setEvents (t : Tia) (g h : Group) (es : List Event) :
    (t.setEvents g es).eventsOf h = if h = g then es else t.eventsOf h := by
  rcases g with _ | s | _ <;> rcases h with _ | s' | _ <;> (try cases s) <;> (try cases s') <;>
    simp [Tia.setEvents, Tia.eventsOf, Tia.setSprite, Tia.sprite]

/-- The events of a group one tick later: those with more than one clock left. -/
def countDown (es : List Event) : List Event :=
  (es.filter (fun e => 1 < e.remaining)).map (fun e => { e with remaining := e.remaining - 1 })

theorem Tia.eventsOf_tickGroup (t : Tia) (g h : Group) :
    (t.tickGroup g).eventsOf h = if h = g then countDown (t.eventsOf g) else t.eventsOf h := by
  unfold Tia.tickGroup
  dsimp only
  rw [Tia.sameEvents_foldl (fun t (e : Event) => t.applyPayload e.payload) _
    (fun t e => Tia.sameEvents_applyPayload t e.payload) _ h, Tia.eventsOf_setEvents]
  rfl

/-- `tickAll()` counts down every group once. -/
theorem Tia.eventsOf_tickAll (t : Tia) (h : Group) : t.tickAll.eventsOf h = countDown (t.eventsOf h) := by
  simp only [Tia.tickAll, groupOrder, List.foldl_cons, List.foldl_nil, Tia.eventsOf_tickGroup]
  rcases h with _ | s | _ <;> (try cases s) <;> simp

theorem Tia.eventsOf_tick (p : Params) (t : Tia) (h : Group) : (t.tick p).eventsOf h = countDown (t.eventsOf h) := by
  unfold Tia.tick
  rw [Tia.eventsOf_tickAll, Tia.sameEvents_tick_stages p t h]

theorem countDown_length (es : List Event) : (countDown es).length ≤ es.length := by
  rw [countDown, List.length_map]; exact List.length_filter_le _ _

/-- The number of live events, group by group. -/
theorem Tia.liveEvents_eq (t : Tia) :
    t.liveEvents = (t.eventsOf .tia).length + (t.eventsOf (.sprite .p0)).length + (t.eventsOf (.sprite .p1)).length +
      (t.eventsOf (.sprite .m0)).length + (t.eventsOf (.sprite .m1)).length + (t.eventsOf (.sprite .bl)).length +
      (t.eventsOf .pf).length := by
  simp only [Tia.liveEvents, groupOrder, List.map_cons, List.map_nil, List.sum_cons, List.sum_nil]
  omega

theorem Tia.SameEvents.liveEvents {t u : Tia} (h : t.SameEvents u) : u.liveEvents = t.liveEvents := by
  simp only [Tia.liveEvents_eq, h _]

/-- A tick adds no event. -/
theorem Tia.liveEvents_tick (p : Params) (t : Tia) : (t.tick p).liveEvents ≤ t.liveEvents := by
  simp only [Tia.liveEvents_eq, Tia.eventsOf_tick]
  have h := fun g => countDown_length (t.eventsOf g)
  have h0 := h .tia; have h1 := h (.sprite .p0); have h2 := h (.sprite .p1); have h3 := h (.sprite .m0)
  have h4 := h (.sprite .m1); have h5 := h (.sprite .bl); have h6 := h .pf
  omega

theorem Tia.liveEvents_ticks (p : Params) (n : Nat) (t : Tia) : (t.ticks p n).liveEvents ≤ t.liveEvents := by
  induction n generalizing t with
  | zero => exact le_refl _
  | succ n ih => exact (ih _).trans (Tia.liveEvents_tick p t)

/-! ### Writes -/

/-- `schedule` with room answers, and adds at most one event. -/
theorem Tia.schedule_ok {t : Tia} (h : t.liveEvents < schedCapacity) (g : Group) (n : Nat) (pl : Payload) :
    ∃ u, Tia.schedule g n pl t = .ok u ∧ u.liveEvents ≤ t.liveEvents + 1 := by
  unfold Tia.schedule
  by_cases hn : n = 0
  · exact ⟨_, by rw [if_pos hn], by rw [(Tia.sameEvents_applyPayload t pl).liveEvents]; omega⟩
  · refine ⟨_, by rw [if_neg hn, if_pos h], ?_⟩
    simp only [Tia.liveEvents_eq, Tia.eventsOf_setEvents]
    rcases g with _ | s | _ <;> (try cases s) <;> simp <;> omega

/-- A TIA write with room in the scheduler answers, and adds at most one event. -/
theorem Tia.write_ok {t : Tia} (h : t.liveEvents < schedCapacity) (p : Params) (reg : BitVec 6) (v : Byte) :
    ∃ u, t.write p reg v = .ok u ∧ u.liveEvents ≤ t.liveEvents + 1 := by
  unfold Tia.write
  split
  · rename_i r _
    unfold Tia.writeReg
    split
    · rename_i s _
      unfold Tia.strobeReset
      dsimp only
      have hs := Tia.sameEvents_setSprite t s
        { t.sprite s with resetPixel := t.resetPixelAt p s, hmovedPixel := t.resetPixelAt p s } rfl
      have he : t.SameEvents { t.setSprite s
          { t.sprite s with resetPixel := t.resetPixelAt p s, hmovedPixel := t.resetPixelAt p s } with
          heat := if p.lateRespxHeat then Config.heatNext t.scanline t.heat else t.heat } :=
        hs.trans (fun g => by cases g <;> rfl)
      have hl := he.liveEvents
      obtain ⟨u, hu, hle⟩ := Tia.schedule_ok (by rw [hl]; exact h) (.sprite s) (t.resetDelay p) (.resetPos s)
      exact ⟨u, hu, by omega⟩
    · exact Tia.schedule_ok h _ _ _
  · exact ⟨t, rfl, by omega⟩

end Sys2Proof.Machine
end

