-- ==== Sys2Proof/Laws/Bus.lean ====
section
/-! SUPPORT. What one bus cycle does on a cartridge without a coprocessor: a read always answers and only reads, a write
answers when the scheduler has room and stores one byte. -/

namespace Sys2Proof.Machine

/-! ### Relations -/

theorem Outside.refl (s : State) : Outside s s := ⟨rfl, rfl, rfl, rfl, rfl, fun _ => rfl⟩

theorem Outside.trans {s t u : State} (h : Outside s t) (k : Outside t u) : Outside s u :=
  ⟨k.params.trans h.params, k.arm.trans h.arm, k.shim.trans h.shim, k.variant.trans h.variant, k.rom.trans h.rom,
   fun f => (k.flat (h.variant.trans f)).trans (h.flat f)⟩

theorem Elapsed.refl (s : State) : Elapsed s s := ⟨le_refl _, by simp⟩

theorem Elapsed.trans {s t u : State} (hp : t.params = s.params) (h : Elapsed s t) (k : Elapsed t u) : Elapsed s u := by
  have h1 := h.steps
  have h2 := k.steps
  refine ⟨h1.trans h2, ?_⟩
  rw [k.ticks, h.ticks, hp, ← Tia.ticks_add]
  congr 1
  omega

theorem SameRam.refl (s : State) : SameRam s s := rfl

theorem SameRam.trans {s t u : State} (h : SameRam s t) (k : SameRam t u) : SameRam s u := Eq.trans k h

theorem Quiet.refl (s : State) : Quiet s s := ⟨.refl s, .refl s, .refl s⟩

theorem Quiet.trans {s t u : State} (h : Quiet s t) (k : Quiet t u) : Quiet s u :=
  ⟨h.outside.trans k.outside, h.ram.trans k.ram, h.elapsed.trans h.outside.params k.elapsed⟩

/-- A change of the 6507 alone is quiet. -/
theorem Quiet.mapCpu (s : State) (f : Cpu → Cpu) : Quiet s (s.mapCpu f) :=
  ⟨⟨rfl, rfl, rfl, rfl, rfl, fun _ => rfl⟩, rfl, ⟨le_refl _, by simp⟩⟩

theorem Quiet.plainCart {s t : State} (h : Quiet s t) (hs : s.plainCart) : t.plainCart := by
  unfold State.plainCart; rw [h.outside.variant]; exact hs

theorem Outside.plainCart {s t : State} (h : Outside s t) (hs : s.plainCart) : t.plainCart := by
  unfold State.plainCart; rw [h.variant]; exact hs

theorem Quiet.room {s t : State} {n : Nat} (h : Quiet s t) (hs : s.room n) : t.room n := by
  unfold State.room at *
  rw [h.elapsed.ticks]
  exact le_trans (Nat.add_le_add_right (Tia.liveEvents_ticks _ _ _) n) hs

theorem Quiet.wf {s t : State} (h : Quiet s t) (hs : s.riot.ram.wf = true) : t.riot.ram.wf = true := by
  have hr : t.riot.ram = s.riot.ram := h.ram
  rw [hr]; exact hs

/-- Reads change no RAM byte. -/
theorem Quiet.read {s t : State} (h : Quiet s t) (j : Nat) : t.riot.ram.read j = s.riot.ram.read j := by
  have hr : t.riot.ram = s.riot.ram := h.ram
  rw [hr]

theorem Quiet.runsUndoc {s t : State} (h : Quiet s t) (hs : s.runsUndoc) : t.runsUndoc := by
  unfold State.runsUndoc; rw [h.outside.params]; exact hs

/-! ### Driver steps without an access -/

/-- `n` driver steps in which nothing but time happens. -/
def State.idle (n : Nat) (s : State) : State :=
  { s with riot := { s.riot with steps := s.riot.steps + n }, tia := s.tia.ticks s.params (3 * n) }

theorem State.idle_quiet (n : Nat) (s : State) : Quiet s (s.idle n) :=
  ⟨⟨rfl, rfl, rfl, rfl, rfl, fun _ => rfl⟩, rfl,
   ⟨Nat.le_add_right _ _, by simp only [State.idle, Nat.add_sub_cancel_left]⟩⟩

theorem State.idle_add (a b : Nat) (s : State) : (s.idle a).idle b = s.idle (a + b) := by
  simp only [State.idle, Tia.ticks_add, Nat.mul_add, Nat.add_assoc]

@[simp] theorem State.idle_cpu (n : Nat) (s : State) : (s.idle n).cpu = s.cpu := rfl
@[simp] theorem State.idle_bus (n : Nat) (s : State) : (s.idle n).bus = s.bus := rfl
@[simp] theorem State.idle_params (n : Nat) (s : State) : (s.idle n).params = s.params := rfl
@[simp] theorem State.idle_log (n : Nat) (s : State) : (s.idle n).log = s.log := rfl
@[simp] theorem State.idle_zero (s : State) : s.idle 0 = s := rfl

theorem State.mapperStep_plain {s : State} (h : s.plainCart) : s.mapperStep = .ok s := by
  unfold State.mapperStep
  rw [if_neg h]

/-- The rest of a driver step that holds no write is one step of time. -/
theorem State.driverTail_plain {s : State} (h : s.plainCart) : s.driverTail none = .ok (s.idle 1) := by
  have h' : (s.riotStep.tiaTicks 3).plainCart := h
  simp only [State.driverTail, State.phase2, State.mapperStep_plain h']
  rfl

/-- Waiting for RDY is time passing. -/
theorem State.waitReady_plain {s : State} (h : s.plainCart) (fuel : Nat) :
    ∃ n, s.waitReady fuel = .ok (s.idle n) ∧ (s.tia.wsync = false → n = 0) := by
  induction fuel generalizing s with
  | zero => exact ⟨0, rfl, fun _ => rfl⟩
  | succ fuel ih =>
    rw [State.waitReady]
    by_cases hw : s.tia.wsync = true
    · obtain ⟨n, hn, -⟩ := ih (s := s.idle 1) h
      refine ⟨1 + n, ?_, fun h => absurd h (by simp [hw])⟩
      simp only [hw, if_true, State.driverTail_plain h, hn, State.idle_add]
    · exact ⟨0, by simp [hw], fun _ => rfl⟩

/-! ### Accesses -/

/-- A part of an access that leaves the CPU, the TIA, RAM and time alone. -/
structure Passive (s t : State) : Prop where
  cpu : t.cpu = s.cpu
  tia : t.tia = s.tia
  ram : t.riot.ram = s.riot.ram
  steps : t.riot.steps = s.riot.steps
  outside : Outside s t

theorem Passive.refl (s : State) : Passive s s := ⟨rfl, rfl, rfl, rfl, .refl s⟩

theorem Passive.trans {s t u : State} (h : Passive s t) (k : Passive t u) : Passive s u :=
  ⟨k.cpu.trans h.cpu, k.tia.trans h.tia, k.ram.trans h.ram, k.steps.trans h.steps, h.outside.trans k.outside⟩

theorem Passive.record (s : State) (e : LogEntry) : Passive s (s.record e) :=
  ⟨rfl, rfl, rfl, rfl, ⟨rfl, rfl, rfl, rfl, rfl, fun _ => rfl⟩⟩

theorem Passive.latchBus (s : State) (a : Addr) (v : Byte) (b : Bool) : Passive s (s.latchBus a v b) :=
  ⟨rfl, rfl, rfl, rfl, ⟨rfl, rfl, rfl, rfl, rfl, fun _ => rfl⟩⟩

/-- What a bank-switching mapper does to the state. -/
theorem Passive.applyEffect {s : State} (hp : s.plainCart) (hf : s.mapper.variant ≠ .flat) (e : MapperEffect) :
    Passive s (s.applyEffect e) := by
  have hc : (s.mapper.variant == MapperVariant.coproc) = false := by
    have h : ¬ s.mapper.variant = .coproc := hp
    simpa using h
  exact ⟨rfl, rfl, rfl, rfl, ⟨rfl, by simp [State.applyEffect, hc], by simp [State.applyEffect, hc], rfl, rfl,
    fun h => absurd h hf⟩⟩

theorem Passive.mapperListen {s : State} (hp : s.plainCart) (a : BusAddr) (v : Byte) :
    Passive s (s.mapperListen a v) := by
  unfold State.mapperListen
  split
  · exact .refl s
  · rename_i h
    exact Passive.applyEffect hp h _

theorem Passive.mapperRead {s : State} (hp : s.plainCart) (a : BusAddr) : Passive s (s.mapperRead a).2 := by
  unfold State.mapperRead
  split
  · exact .refl s
  · rename_i h
    split
    · exact .refl s
    · dsimp only
      split
      · exact Passive.applyEffect hp h _
      · exact (Passive.applyEffect hp h _).trans (Passive.record _ _)

theorem Passive.mapperWrite {s : State} (hp : s.plainCart) (a : BusAddr) (v : Byte) : Passive s (s.mapperWrite a v) := by
  unfold State.mapperWrite
  split
  · exact .refl s
  · rename_i h
    split
    · exact Passive.applyEffect hp h _
    · exact Passive.record _ _

theorem Passive.riotRead (s : State) (a : BusAddr) : Passive s (s.riotRead a).2 := by
  unfold State.riotRead
  dsimp only
  split <;> exact ⟨rfl, rfl, rfl, rfl, ⟨rfl, rfl, rfl, rfl, rfl, fun _ => rfl⟩⟩

theorem Passive.riotWrite (s : State) (a : BusAddr) (v : Byte) : Passive s (s.riotWrite a v) := by
  unfold State.riotWrite
  dsimp only
  split <;> exact ⟨rfl, rfl, rfl, rfl, ⟨rfl, rfl, rfl, rfl, rfl, fun _ => rfl⟩⟩

theorem Passive.deviceRead {s : State} (hp : s.plainCart) (a : BusAddr) : Passive s (s.deviceRead a).2 := by
  unfold State.deviceRead
  split
  · exact .refl s
  · exact .refl s
  · exact Passive.riotRead s a
  · exact Passive.mapperRead hp a

theorem State.shimTick_plain {s : State} (hp : s.plainCart) (k : BusCycle) : s.shimTick k = .ok (none, s) := by
  have hp' : ¬ s.mapper.variant = .coproc := hp
  simp only [State.shimTick, State.shimStep, hp', if_false]

/-- A read on a cartridge without a coprocessor: the device's value, and nothing but the buses and the devices change. -/
theorem State.busRead_plain {s : State} (hp : s.plainCart) (addr : Addr) :
    ∃ x, s.busRead addr = .ok x ∧ x.1 = (s.deviceRead (busAddr addr)).1 ∧ Passive s x.2 ∧
      x.2.bus = ⟨addr, x.1, true, x.1⟩ := by
  have hd := Passive.deviceRead hp (busAddr addr)
  have hp' := hd.outside.plainCart hp
  refine ⟨((s.deviceRead (busAddr addr)).1,
    ((s.deviceRead (busAddr addr)).2.mapperListen (busAddr addr) (s.deviceRead (busAddr addr)).1).latchBus addr
      (s.deviceRead (busAddr addr)).1 true), ?_, rfl,
    (hd.trans (Passive.mapperListen hp' _ _)).trans (Passive.latchBus _ _ _ _), rfl⟩
  simp only [State.busRead, State.shimTick_plain hp]
  split <;> simp_all

/-- A read cycle: it answers; the value is the device's after the wait; only time, the buses and the devices change. -/
theorem cycleRead_plain {s : State} (hp : s.plainCart) (addr : Addr) :
    ∃ n x, cycleRead addr s = .ok x ∧ x.1 = ((s.idle n).deviceRead (busAddr addr)).1 ∧
      x.2.cpu = { s.cpu with t := s.cpu.t + 1, dl := x.1 } ∧ Quiet s x.2 ∧
      x.2.riot.steps = s.riot.steps + n + 1 ∧ x.2.bus = ⟨addr, x.1, true, x.1⟩ ∧ (s.tia.wsync = false → n = 0) := by
  obtain ⟨n, hn, hw⟩ := State.waitReady_plain hp s.waitFuel
  have hq := State.idle_quiet n s
  obtain ⟨x, hx, hv, hpa, hb⟩ := State.busRead_plain (hq.plainCart hp) addr
  have hp2 := hpa.outside.plainCart (hq.plainCart hp)
  have hd := State.driverTail_plain hp2
  refine ⟨n, (x.1, (x.2.idle 1).mapCpu (fun k => { k.advanceT with dl := x.1 })), ?_, hv, ?_, ?_, ?_, hb, hw⟩
  · simp only [cycleRead, hn, hx, hd, bind, Except.bind, pure, Except.pure]
  · simp only [State.mapCpu_cpu, State.idle_cpu, hpa.cpu]; rfl
  · have ha : Quiet (s.idle n) x.2 := ⟨hpa.outside, hpa.ram, le_of_eq hpa.steps.symm, by
      rw [hpa.steps, hpa.tia]; simp⟩
    exact ((hq.trans ha).trans (State.idle_quiet 1 x.2)).trans
      (Quiet.mapCpu (x.2.idle 1) (fun k => { k.advanceT with dl := x.1 }))
  · simp only [State.mapCpu_riot, State.idle, hpa.steps]

/-- A read cycle, without the wait. -/
theorem cycleRead_quiet {s : State} (hp : s.plainCart) (addr : Addr) :
    ∃ x, cycleRead addr s = .ok x ∧ x.2.cpu = { s.cpu with t := s.cpu.t + 1, dl := x.1 } ∧ Quiet s x.2 := by
  obtain ⟨n, x, h, -, hc, hq, -⟩ := cycleRead_plain hp addr
  exact ⟨x, h, hc, hq⟩

/-- What a read cycle delivers from RAM. -/
theorem cycleRead_ram {s : State} (hp : s.plainCart) {addr : Addr} (hr : inRam addr) {x : Byte × State}
    (hx : cycleRead addr s = .ok x) : x.1 = s.ramByte addr := by
  obtain ⟨n, y, hy, hv, -⟩ := cycleRead_plain hp addr
  obtain rfl : y = x := by simpa [hy] using hx
  unfold inRam at hr
  rw [hv, State.deviceRead, hr]
  rfl

/-- What a read cycle delivers from RAM or the ROM of a flat cartridge. -/
theorem cycleRead_code {s : State} (hp : s.plainCart) {addr : Addr} {b : Byte} (hb : s.codeByte addr = some b)
    {x : Byte × State} (hx : cycleRead addr s = .ok x) : x.1 = b := by
  obtain ⟨n, y, hy, hv, -⟩ := cycleRead_plain hp addr
  obtain rfl : y = x := by simpa [hy] using hx
  have hv' := (State.idle_quiet n s).outside.variant
  unfold State.codeByte at hb
  rw [hv, State.deviceRead]
  split at hb
  · rename_i h; rw [h]; exact Option.some.inj hb
  · rename_i h
    split at hb
    · rename_i hf
      have hf' : (s.idle n).mapper.variant = .flat := hf
      rw [h]
      simp only [State.mapperRead, hf']
      exact Option.some.inj hb
    · simp at hb
  · simp at hb

/-! ### Writes -/

/-- What a write cycle does. -/
structure Stored (addr : Addr) (v : Byte) (s t : State) : Prop where
  cpu : t.cpu = { s.cpu with t := s.cpu.t + 1 }
  bus : t.bus = ⟨addr, v, false, v⟩
  outside : Outside s t
  wf : s.riot.ram.wf = true → t.riot.ram.wf = true
  ram : s.riot.ram.wf = true → ∀ j, t.riot.ram.read j = storeRam addr v (fun j => s.riot.ram.read j) j
  steps : t.riot.steps = s.riot.steps + 1
  live : t.tia.liveEvents ≤ s.tia.liveEvents + 1
  elapsed : rangeOf (busAddr addr) ≠ .tia → Elapsed s t
  tia : rangeOf (busAddr addr) = .tia → TiaWritten s.params addr v s.tia t.tia

theorem Memory.read_ite {m : Memory} (h : m.wf = true) (k j : Nat) (v : Byte) :
    (m.write k v).read j = if j = k then v else m.read j := by
  by_cases h : j = k
  · subst h; rw [if_pos rfl]; exact Memory.read_write_same ‹_› j v
  · simp [h, Memory.read_write_other m v h]

/-- A write cycle from the answers of the device and of the rest of the driver step. -/
theorem cycleWrite_of {s u w : State} {held : Option HeldWrite} (hp : s.plainCart) (addr : Addr) (v : Byte)
    (hd : s.deviceWrite (busAddr addr) v = .ok (held, u))
    (ht : ((u.mapperListen (busAddr addr) v).latchBus addr v false).driverTail held = .ok w) :
    cycleWrite addr v s = .ok (w.mapCpu Cpu.advanceT) := by
  simp only [cycleWrite, State.busWrite, State.shimTick_plain hp, Option.getD_none, hd, bind, Except.bind, ht, pure,
    Except.pure]

/-- A write cycle stores its byte; to the TIA it needs room in the scheduler. -/
theorem cycleWrite_at {s : State} (hp : s.plainCart) (addr : Addr) (v : Byte)
    (hr : rangeOf (busAddr addr) = .tia → s.room 1) : ∃ t, cycleWrite addr v s = .ok t ∧ Stored addr v s t := by
  -- the write reaches a device other than the TIA
  have plain : ∀ u : State, u.plainCart → u.cpu = s.cpu → Outside s u → u.riot.steps = s.riot.steps → u.tia = s.tia →
      rangeOf (busAddr addr) ≠ .tia →
      (s.riot.ram.wf = true → u.riot.ram.wf = true) →
      (s.riot.ram.wf = true → ∀ j, u.riot.ram.read j = storeRam addr v (fun j => s.riot.ram.read j) j) →
      s.deviceWrite (busAddr addr) v = .ok (none, u) → ∃ t, cycleWrite addr v s = .ok t ∧ Stored addr v s t := by
    intro u hu hc ho hs ht hne hwf hram hd
    have hl := (Passive.mapperListen hu (busAddr addr) v).trans (Passive.latchBus _ addr v false)
    have hp2 := hl.outside.plainCart hu
    refine ⟨_, cycleWrite_of hp addr v hd (State.driverTail_plain hp2), ?_⟩
    refine ⟨by simp only [State.mapCpu_cpu, State.idle_cpu, hl.cpu, hc]; rfl, rfl, (ho.trans hl.outside).trans
      ((State.idle_quiet 1 _).trans (Quiet.mapCpu _ _)).outside, fun h => ?_, fun h j => ?_, ?_, ?_,
      fun _ => ⟨?_, ?_⟩, fun h => absurd h hne⟩
    · rw [← hwf h, ← hl.ram]; rfl
    · rw [← hram h j, ← hl.ram]; rfl
    · simp only [State.mapCpu_riot, State.idle, hl.steps, hs]
    · simp only [State.mapCpu_tia, State.idle, hl.tia, ht]
      exact (Tia.liveEvents_ticks _ _ _).trans (Nat.le_succ _)
    · simp only [State.mapCpu_riot, State.idle, hl.steps, hs]; omega
    · have hpar : (((u.mapperListen (busAddr addr) v).latchBus addr v false)).params = s.params :=
        (ho.trans hl.outside).params
      simp only [State.mapCpu_tia, State.mapCpu_riot, State.idle, hl.tia, hl.steps, ht, hs, hpar,
        Nat.add_sub_cancel_left]
  have keep : ∀ j, rangeOf (busAddr addr) ≠ .ram →
      s.riot.ram.read j = storeRam addr v (fun j => s.riot.ram.read j) j := by
    intro j h; simp [storeRam, h]
  cases hrange : rangeOf (busAddr addr) with
  | ram =>
    refine plain { s with riot := { s.riot with ram := s.riot.ram.write (ramIndex (busAddr addr)) v } } hp rfl
      ⟨rfl, rfl, rfl, rfl, rfl, fun _ => rfl⟩ rfl rfl (by simp [hrange])
      (fun h => Memory.wf_write h _ _) (fun h j => ?_) (by simp only [State.deviceWrite, hrange])
    simp only [Memory.read_ite h, storeRam, hrange, true_and]
  | riotIo =>
    have h := Passive.riotWrite s (busAddr addr) v
    exact plain _ (h.outside.plainCart hp) h.cpu h.outside h.steps h.tia (by simp [hrange])
      (fun k => by rw [h.ram]; exact k) (fun _ j => by rw [h.ram]; exact keep j (by simp [hrange])) (by simp only [State.deviceWrite, hrange])
  | cartridge =>
    have h := Passive.mapperWrite hp (busAddr addr) v
    exact plain _ (h.outside.plainCart hp) h.cpu h.outside h.steps h.tia (by simp [hrange])
      (fun k => by rw [h.ram]; exact k) (fun _ j => by rw [h.ram]; exact keep j (by simp [hrange])) (by simp only [State.deviceWrite, hrange])
  | tia =>
    have hroom : s.tia.liveEvents < schedCapacity := hr hrange
    by_cases hph : s.params.tiaWritePhase = 0
    · obtain ⟨u, hu, hul⟩ := Tia.write_ok hroom s.params ((busAddr addr).setWidth 6) v
      have hp1 : State.plainCart { s with tia := u } := hp
      have hl := (Passive.mapperListen hp1 (busAddr addr) v).trans (Passive.latchBus _ addr v false)
      have hp2 := hl.outside.plainCart hp1
      have hd : s.deviceWrite (busAddr addr) v = .ok (none, { s with tia := u }) := by
        simp only [State.deviceWrite, hrange, hph, if_true, hu]
      refine ⟨_, cycleWrite_of hp addr v hd (State.driverTail_plain hp2), ?_⟩
      have ho : Outside s { s with tia := u } := ⟨rfl, rfl, rfl, rfl, rfl, fun _ => rfl⟩
      refine ⟨by simp only [State.mapCpu_cpu, State.idle_cpu, hl.cpu]; rfl, rfl, (ho.trans hl.outside).trans
        ((State.idle_quiet 1 _).trans (Quiet.mapCpu _ _)).outside, fun h => ?_, fun _ j => ?_, ?_, ?_,
        fun h => absurd hrange h, fun _ => ⟨u, by rw [hph]; exact hu, ?_⟩⟩
      · simp only [State.mapCpu_riot, State.idle, hl.ram]; exact h
      · rw [← keep j (by simp [hrange])]
        simp only [State.mapCpu_riot, State.idle, hl.ram]
      · simp only [State.mapCpu_riot, State.idle, hl.steps]
      · simp only [State.mapCpu_tia, State.idle, hl.tia]
        exact (Tia.liveEvents_ticks _ _ _).trans hul
      · have hpar : ((State.mapperListen (busAddr addr) v { s with tia := u }).latchBus addr v false).params = s.params :=
          hl.outside.params
        simp only [State.mapCpu_tia, State.idle, hl.tia, hpar, hph]
        rfl
    · have hl := (Passive.mapperListen hp (busAddr addr) v).trans (Passive.latchBus _ addr v false)
      have hp2 := hl.outside.plainCart hp
      generalize hw : (s.mapperListen (busAddr addr) v).latchBus addr v false = w at hl hp2
      have hlive := Tia.liveEvents_ticks w.params w.params.tiaWritePhase.val w.tia
      obtain ⟨u, hu, hul⟩ := Tia.write_ok (t := w.tia.ticks w.params w.params.tiaWritePhase.val)
        (by rw [hl.tia] at hlive ⊢; omega) w.params ((busAddr addr).setWidth 6) v
      have hd : s.deviceWrite (busAddr addr) v = .ok (some ((busAddr addr).setWidth 6, v), s) := by
        simp only [State.deviceWrite, hrange, hph, if_false]
      have hp3 : State.plainCart (State.tiaTicks (3 - w.params.tiaWritePhase.val) { w.riotStep with tia := u }) := hp2
      have ht : w.driverTail (some ((busAddr addr).setWidth 6, v)) =
          .ok (State.tiaTicks (3 - w.params.tiaWritePhase.val) { w.riotStep with tia := u }) := by
        simp only [State.driverTail, State.phase2, State.tiaTicks_tia, State.riotStep_tia, State.riotStep_params,
          State.tiaTicks_params, hu]
        exact State.mapperStep_plain hp3
      refine ⟨_, cycleWrite_of (w := State.tiaTicks (3 - w.params.tiaWritePhase.val) { w.riotStep with tia := u }) hp addr v hd
        (by rw [hw]; exact ht), ?_⟩
      refine ⟨?_, by rw [← hw]; rfl, hl.outside.trans ⟨rfl, rfl, rfl, rfl, rfl, fun _ => rfl⟩, fun h => ?_, fun _ j => ?_, ?_, ?_,
        fun h => absurd hrange h, fun _ => ⟨u, by rw [← hl.tia, ← hl.outside.params]; exact hu, by
          rw [← hl.outside.params]; rfl⟩⟩
      · show w.cpu.advanceT = _
        rw [hl.cpu]; rfl
      · show w.riot.ram.wf = true
        rw [hl.ram]; exact h
      · show w.riot.ram.read j = _
        rw [hl.ram]; exact keep j (by simp [hrange])
      · show w.riot.steps + 1 = _
        rw [hl.steps]
      · simp only [State.mapCpu_tia, State.tiaTicks_tia]
        refine (Tia.liveEvents_ticks _ _ _).trans (hul.trans ?_)
        rw [hl.tia] at hlive ⊢
        omega

/-- A write cycle with room in the scheduler stores its byte. -/
theorem cycleWrite_plain {s : State} (hp : s.plainCart) (hr : s.room 1) (addr : Addr) (v : Byte) :
    ∃ t, cycleWrite addr v s = .ok t ∧ Stored addr v s t := cycleWrite_at hp addr v fun _ => hr

end Sys2Proof.Machine
end

