-- ==== Sys2Proof/Laws/Decode.lean ====
section
/-! SUPPORT. The decoders: which operand bytes an opcode reads, decoding after a cons, and the two views of a Thumb row. -/

namespace Sys2Proof

theorem decodeBytes6507_cons (b0 : Byte) (rest : List Byte) :
    decodeBytes6507 (b0 :: rest) = decode6507 b0 (rest.getD 0 0) (rest.getD 1 0) := rfl

theorem halfOfBytes_halfBytes (w : Nat) (rest : List Byte) : halfOfBytes (halfBytes w ++ rest) = BitVec.ofNat 16 w := by
  apply BitVec.eq_of_toNat_eq
  show (BitVec.ofNat 8 (w / 256) ++ BitVec.ofNat 8 w : BitVec 16).toNat = _
  rw [BitVec.toNat_append, ← Nat.shiftLeft_add_eq_or_of_lt (BitVec.isLt _), Nat.shiftLeft_eq]
  simp only [BitVec.toNat_ofNat]
  omega

set_option maxRecDepth 4000 in
/-- What an opcode's length says of the operand bytes it reads (R151). -/
theorem opLength_cases (b0 : Byte) :
    (opLength b0 = 1 ∧ ∀ b1 b2, decode6507 b0 b1 b2 = decode6507 b0 0 0) ∨
    (opLength b0 = 2 ∧ ∀ b1 b2, decode6507 b0 b1 b2 = decode6507 b0 b1 0) ∨ opLength b0 = 3 := by
  obtain ⟨n, rfl⟩ : ∃ n : Fin 256, b0 = BitVec.ofFin n := ⟨b0.toFin, rfl⟩
  fin_cases n <;>
    first | exact .inl ⟨rfl, fun _ _ => rfl⟩ | exact .inr (.inl ⟨rfl, fun _ _ => rfl⟩) | exact .inr (.inr rfl)

end Sys2Proof

namespace Sys2Proof.Machine

/-- A Thumb row means the same through `exec` as through the ARM's own table. -/
theorem exec_toInstr (i : ThumbInstr) (s : State) : exec i.toInstr s = thumbExec i s := by
  cases i <;> rfl

end Sys2Proof.Machine
end

