-- ==== Sys2Proof/Laws/Operands.lean ====
section
/-! SUPPORT. What the addressing modes, the stack operations and the instruction shapes of the 6507 do on a cartridge without
a coprocessor, each said once. -/

namespace Sys2Proof.Machine

/-! ### The observable registers -/

theorem Cpu.arch_of_latch {k : Cpu} (t : Nat) (dl : Byte) : ({ k with t := t, dl := dl } : Cpu).arch = k.arch := rfl

/-- The observable registers, one by one. -/
theorem Cpu.arch_iff (k l : Cpu) : k.arch = l.arch ↔
    k.a = l.a ∧ k.x = l.x ∧ k.y = l.y ∧ k.sp = l.sp ∧ k.pc = l.pc ∧ k.c = l.c ∧ k.z = l.z ∧ k.i = l.i ∧ k.d = l.d ∧
      k.v = l.v ∧ k.n = l.n ∧ k.jammed = l.jammed ∧ k.resetting = l.resetting := by
  constructor
  · intro h
    injection h with h1 h2 h3 h4 h5 h6 h7 h8 h9 h10 h11 h12 h13
    exact ⟨h1, h2, h3, h4, h5, h6, h7, h8, h9, h10, h11, h12, h13⟩
  · rintro ⟨h1, h2, h3, h4, h5, h6, h7, h8, h9, h10, h11, h12, h13⟩
    simp only [Cpu.arch, h1, h2, h3, h4, h5, h6, h7, h8, h9, h10, h11, h12, h13]

/-- An operation on the observable registers alone. -/
def Cpu.Regular (op : Cpu → Cpu) : Prop := ∀ k, (op k).arch = (op k.arch).arch

theorem Cpu.Regular.congr {op : Cpu → Cpu} (h : Cpu.Regular op) {k l : Cpu} (e : k.arch = l.arch) :
    (op k).arch = (op l).arch := by rw [h k, h l, e]

/-- Reads answered: an operation that only reads and keeps the observable registers. -/
structure Reads (s t : State) : Prop where
  arch : t.cpu.arch = s.cpu.arch
  quiet : Quiet s t

theorem Reads.refl (s : State) : Reads s s := ⟨rfl, .refl s⟩

theorem Reads.trans {s t u : State} (h : Reads s t) (k : Reads t u) : Reads s u :=
  ⟨k.arch.trans h.arch, h.quiet.trans k.quiet⟩

theorem Reads.plainCart {s t : State} (h : Reads s t) (hs : s.plainCart) : t.plainCart := h.quiet.plainCart hs

/-- A read cycle keeps the observable registers and takes one cycle. -/
theorem cycleRead_reads {s : State} (hp : s.plainCart) (a : Addr) :
    ∃ x, cycleRead a s = .ok x ∧ Reads s x.2 ∧ x.2.cpu.t = s.cpu.t + 1 := by
  obtain ⟨x, h, hc, hq⟩ := cycleRead_quiet hp a
  exact ⟨x, h, ⟨by rw [hc]; rfl, hq⟩, by rw [hc]⟩

theorem dummyRead_reads {s : State} (hp : s.plainCart) (a : Addr) :
    ∃ t, dummyRead a s = .ok t ∧ Reads s t ∧ t.cpu.t = s.cpu.t + 1 := by
  obtain ⟨x, h, hr, ht⟩ := cycleRead_reads hp a
  exact ⟨x.2, by simp only [dummyRead, h, bind, Except.bind, pure, Except.pure], hr, ht⟩

/-! ### Addressing modes -/

/-- A mode that answers, only reads, and takes a number of cycles that may depend on whether a page is crossed. -/
structure Delivers (s : State) (e : Addr × State) (cycles : Nat) : Prop where
  reads : Reads s e.2
  t : e.2.cpu.t = s.cpu.t + cycles

theorem deliver_delivers {s t : State} {n : Nat} (h : Reads s t) (ht : t.cpu.t = s.cpu.t + n) (a : Addr) (c : Bool) :
    Delivers s (deliver a c t) n :=
  ⟨h.trans ⟨rfl, Quiet.mapCpu t _⟩, ht⟩

theorem eaZp_ok (b1 : Byte) (s : State) :
    ∃ e, eaZp b1 s = .ok e ∧ Delivers s e 0 ∧ e.1 = 0x00#8 ++ b1 ∧ e.2.cpu.fix = false :=
  ⟨_, rfl, deliver_delivers (.refl s) rfl _ _, rfl, rfl⟩

theorem eaAbs_ok (b1 b2 : Byte) (s : State) :
    ∃ e, eaAbs b1 b2 s = .ok e ∧ Delivers s e 0 ∧ e.1 = b2 ++ b1 ∧ e.2.cpu.fix = false :=
  ⟨_, rfl, deliver_delivers (.refl s) rfl _ _, rfl, rfl⟩

theorem eaZpIndexed_ok {s : State} (hp : s.plainCart) (b1 idx : Byte) :
    ∃ e, eaZpIndexed b1 idx s = .ok e ∧ Delivers s e 1 ∧ e.1 = 0x00#8 ++ (b1 + idx) ∧ e.2.cpu.fix = false := by
  obtain ⟨t, h, hr, ht⟩ := dummyRead_reads hp (zp b1)
  exact ⟨deliver (zp (b1 + idx)) false t, by simp only [eaZpIndexed, h, bind, Except.bind, pure, Except.pure],
    deliver_delivers hr ht _ _, rfl, rfl⟩

theorem eaIndexedRead_ok {s : State} (hp : s.plainCart) (lo hi idx : Byte) :
    ∃ e, eaIndexedRead lo hi idx s = .ok e ∧ Delivers s e (pageCrossed lo idx).toNat ∧
      e.1 = (hi ++ lo) + idx.setWidth 16 ∧ e.2.cpu.fix = pageCrossed lo idx := by
  unfold eaIndexedRead
  by_cases hc : pageCrossed lo idx = true
  · obtain ⟨t, h, hr, ht⟩ := dummyRead_reads hp (uncorrected lo hi idx)
    exact ⟨deliver (indexed lo hi idx) true t, by
      simp only [hc, if_true, h, bind, Except.bind, pure, Except.pure], by
      rw [hc]; exact deliver_delivers hr ht _ _, rfl, hc.symm⟩
  · rw [Bool.not_eq_true] at hc
    exact ⟨deliver (indexed lo hi idx) false s, by simp only [hc, Bool.false_eq_true, if_false]; rfl, by
      rw [hc]; exact deliver_delivers (.refl s) rfl _ _, rfl, hc.symm⟩

theorem eaIndexedFixed_ok {s : State} (hp : s.plainCart) (lo hi idx : Byte) :
    ∃ e, eaIndexedFixed lo hi idx s = .ok e ∧ Delivers s e 1 ∧ e.1 = (hi ++ lo) + idx.setWidth 16 ∧
      e.2.cpu.fix = pageCrossed lo idx := by
  obtain ⟨t, h, hr, ht⟩ := dummyRead_reads hp (uncorrected lo hi idx)
  exact ⟨deliver (indexed lo hi idx) (pageCrossed lo idx) t, by
    simp only [eaIndexedFixed, h, bind, Except.bind, pure, Except.pure], deliver_delivers hr ht _ _, rfl, rfl⟩

/-- The pointer bytes come from page 0, the second from `(p + 1) & 0xFF`. -/
theorem readPointer_ok {s : State} (hp : s.plainCart) (p : Byte) :
    ∃ q, readPointer p s = .ok q ∧ Reads s q.2.2 ∧ q.2.2.cpu.t = s.cpu.t + 2 ∧
      (inRam (zp p) → q.1 = s.ramByte (zp p)) ∧ (inRam (zp (p + 1)) → q.2.1 = s.ramByte (zp (p + 1))) := by
  have hb : Reads s (s.mapCpu (Cpu.latchBase p)) := ⟨rfl, Quiet.mapCpu s _⟩
  obtain ⟨l, hl, hlr, hlt⟩ := cycleRead_reads (hb.plainCart hp) (zp p)
  have hl' := hb.trans hlr
  obtain ⟨h, hh, hhr, hht⟩ := cycleRead_reads (hl'.plainCart hp) (zp (p + 1))
  refine ⟨(l.1, h.1, h.2), by simp only [readPointer, hl, hh, bind, Except.bind, pure, Except.pure], hl'.trans hhr, ?_,
    fun hr => cycleRead_ram (hb.plainCart hp) hr hl, fun hr => ?_⟩
  · show h.2.cpu.t = _
    rw [hht, hlt]
    rfl
  · show h.1 = _
    rw [cycleRead_ram (hl'.plainCart hp) hr hh]
    exact hl'.quiet.read _

theorem Delivers.trans {s t : State} {e : Addr × State} {n m k : Nat} (h : Reads s t) (ht : t.cpu.t = s.cpu.t + n)
    (d : Delivers t e m) (hk : k = n + m) : Delivers s e k :=
  ⟨h.trans d.reads, by rw [d.t, ht]; omega⟩

theorem eaIzx_ok {s : State} (hp : s.plainCart) (b1 : Byte) :
    ∃ e, eaIzx b1 s = .ok e ∧ Delivers s e 3 ∧ e.2.cpu.fix = false := by
  obtain ⟨t, h, hr, ht⟩ := dummyRead_reads hp (zp b1)
  obtain ⟨q, hq, hqr, hqt, -⟩ := readPointer_ok (hr.plainCart hp) (b1 + t.cpu.x)
  exact ⟨deliver (q.2.1 ++ q.1) false q.2.2, by simp only [eaIzx, h, hq, bind, Except.bind, pure, Except.pure],
    deliver_delivers (hr.trans hqr) (by rw [hqt, ht]) _ _, rfl⟩

theorem eaIzyRead_ok {s : State} (hp : s.plainCart) (b1 : Byte) :
    ∃ e, eaIzyRead b1 s = .ok e ∧ Delivers s e (2 + e.2.cpu.fix.toNat) := by
  obtain ⟨q, hq, hqr, hqt, -⟩ := readPointer_ok hp b1
  obtain ⟨e, he, hd, -, hf⟩ := eaIndexedRead_ok (hqr.plainCart hp) q.1 q.2.1 q.2.2.cpu.y
  exact ⟨e, by simp only [eaIzyRead, hq, he, bind, Except.bind], hd.trans hqr hqt (by rw [hf])⟩

theorem eaIzyFixed_ok {s : State} (hp : s.plainCart) (b1 : Byte) :
    ∃ e, eaIzyFixed b1 s = .ok e ∧ Delivers s e 3 := by
  obtain ⟨q, hq, hqr, hqt, -⟩ := readPointer_ok hp b1
  obtain ⟨e, he, hd, -, -⟩ := eaIndexedFixed_ok (hqr.plainCart hp) q.1 q.2.1 q.2.2.cpu.y
  exact ⟨e, by simp only [eaIzyFixed, hq, he, bind, Except.bind], hd.trans hqr hqt rfl⟩

/-- A mode that answers on every state of a cartridge without a coprocessor, and only reads. -/
def Ea.Sound (ea : Ea) : Prop := ∀ s : State, s.plainCart → ∃ e, ea s = .ok e ∧ Reads s e.2

theorem eaZp_sound (b1 : Byte) : Ea.Sound (eaZp b1) := fun s _ =>
  let ⟨e, h, d, _⟩ := eaZp_ok b1 s; ⟨e, h, d.reads⟩
theorem eaZpx_sound (b1 : Byte) : Ea.Sound (eaZpx b1) := fun _ hp =>
  let ⟨e, h, d, _⟩ := eaZpIndexed_ok hp b1 _; ⟨e, h, d.reads⟩
theorem eaZpy_sound (b1 : Byte) : Ea.Sound (eaZpy b1) := fun _ hp =>
  let ⟨e, h, d, _⟩ := eaZpIndexed_ok hp b1 _; ⟨e, h, d.reads⟩
theorem eaAbs_sound (b1 b2 : Byte) : Ea.Sound (eaAbs b1 b2) := fun s _ =>
  let ⟨e, h, d, _⟩ := eaAbs_ok b1 b2 s; ⟨e, h, d.reads⟩
theorem eaAbxRead_sound (b1 b2 : Byte) : Ea.Sound (eaAbxRead b1 b2) := fun _ hp =>
  let ⟨e, h, d, _⟩ := eaIndexedRead_ok hp b1 b2 _; ⟨e, h, d.reads⟩
theorem eaAbyRead_sound (b1 b2 : Byte) : Ea.Sound (eaAbyRead b1 b2) := fun _ hp =>
  let ⟨e, h, d, _⟩ := eaIndexedRead_ok hp b1 b2 _; ⟨e, h, d.reads⟩
theorem eaAbxFixed_sound (b1 b2 : Byte) : Ea.Sound (eaAbxFixed b1 b2) := fun _ hp =>
  let ⟨e, h, d, _⟩ := eaIndexedFixed_ok hp b1 b2 _; ⟨e, h, d.reads⟩
theorem eaAbyFixed_sound (b1 b2 : Byte) : Ea.Sound (eaAbyFixed b1 b2) := fun _ hp =>
  let ⟨e, h, d, _⟩ := eaIndexedFixed_ok hp b1 b2 _; ⟨e, h, d.reads⟩
theorem eaIzx_sound (b1 : Byte) : Ea.Sound (eaIzx b1) := fun _ hp =>
  let ⟨e, h, d, _⟩ := eaIzx_ok hp b1; ⟨e, h, d.reads⟩
theorem eaIzyRead_sound (b1 : Byte) : Ea.Sound (eaIzyRead b1) := fun _ hp =>
  let ⟨e, h, d⟩ := eaIzyRead_ok hp b1; ⟨e, h, d.reads⟩
theorem eaIzyFixed_sound (b1 : Byte) : Ea.Sound (eaIzyFixed b1) := fun _ hp =>
  let ⟨e, h, d⟩ := eaIzyFixed_ok hp b1; ⟨e, h, d.reads⟩

/-! ### Instruction shapes -/

/-- A source of `M` that answers and only reads. -/
theorem Source.fetch_value (m : Byte) (s : State) : (Source.value m).fetch s = .ok (m, s) := rfl

theorem Source.fetch_memory {ea : Ea} (h : ea.Sound) {s : State} (hp : s.plainCart) :
    ∃ x, (Source.memory ea).fetch s = .ok x ∧ Reads s x.2 := by
  obtain ⟨e, he, hr⟩ := h s hp
  obtain ⟨x, hx, hxr, -⟩ := cycleRead_reads (hr.plainCart hp) e.1
  exact ⟨x, by simp only [Source.fetch, he, hx, bind, Except.bind], hr.trans hxr⟩

/-- A read instruction is the fetch of `M`, then its operation. -/
theorem readVia_eq (ea : Ea) (op : Byte → Cpu → Cpu) {s : State} {x : Byte × State}
    (h : (Source.memory ea).fetch s = .ok x) : readVia ea op s = .ok (x.2.mapCpu (op x.1)) := by
  simp only [Source.fetch, bind, Except.bind] at h
  simp only [readVia, bind, Except.bind, pure, Except.pure]
  split at h
  · exact absurd h (by simp)
  · rename_i e he
    simp only [h]

/-- A one-byte instruction on registers. -/
theorem implied_ok {s : State} (hp : s.plainCart) (op : Cpu → Cpu) :
    ∃ t, implied op s = .ok (t.mapCpu op) ∧ Reads s t ∧ t.cpu.t = s.cpu.t + 1 := by
  obtain ⟨t, h, hr, ht⟩ := dummyRead_reads hp s.cpu.pc
  exact ⟨t, by simp only [implied, h, bind, Except.bind, pure, Except.pure], hr, ht⟩

/-- A store stores its byte at its address. -/
theorem storeVia_ok {ea : Ea} (h : ea.Sound) {s : State} (hp : s.plainCart) (hr : s.room 1) (val : Cpu → Byte) :
    ∃ e t, ea s = .ok e ∧ storeVia ea val s = .ok t ∧ Reads s e.2 ∧ Stored e.1 (val e.2.cpu) e.2 t := by
  obtain ⟨e, he, her⟩ := h s hp
  obtain ⟨t, ht, hs⟩ := cycleWrite_plain (her.plainCart hp) (her.quiet.room hr) e.1 (val e.2.cpu)
  exact ⟨e, t, he, by simp only [storeVia, he, ht, bind, Except.bind], her, hs⟩

theorem Stored.arch {a : Addr} {v : Byte} {s t : State} (h : Stored a v s t) : t.cpu.arch = s.cpu.arch := by
  rw [h.cpu]; rfl

theorem Stored.plainCart {a : Addr} {v : Byte} {s t : State} (h : Stored a v s t) (hs : s.plainCart) : t.plainCart :=
  h.outside.plainCart hs

theorem Stored.room {a : Addr} {v : Byte} {s t : State} {n : Nat} (h : Stored a v s t) (hs : s.room (n + 1)) :
    t.room n := by
  have := h.live
  unfold State.room at *
  omega

/-- A read-modify-write reads once and writes twice at its address. -/
theorem rmwVia_ok {ea : Ea} (h : ea.Sound) {s : State} (hp : s.plainCart) (hr : s.room 2)
    (f : Byte → Bool → Byte × Bool) (post : Byte → Cpu → Cpu) :
    ∃ e x t u, ea s = .ok e ∧ cycleRead e.1 e.2 = .ok x ∧ Reads s e.2 ∧ Reads e.2 x.2 ∧ Stored e.1 x.1 x.2 t ∧
      Stored e.1 (f x.1 x.2.cpu.c).1 t u ∧
      rmwVia ea f post s =
        .ok (u.mapCpu (fun k => post (f x.1 x.2.cpu.c).1 { k with c := (f x.1 x.2.cpu.c).2 })) := by
  obtain ⟨e, he, her⟩ := h s hp
  obtain ⟨x, hx, hxr, -⟩ := cycleRead_reads (her.plainCart hp) e.1
  have hxp := hxr.plainCart (her.plainCart hp)
  have hxm := hxr.quiet.room (her.quiet.room hr)
  obtain ⟨t, ht, hts⟩ := cycleWrite_plain hxp (by unfold State.room at *; omega) e.1 x.1
  obtain ⟨u, hu, hus⟩ := cycleWrite_plain (hts.plainCart hxp) (hts.room hxm) e.1 (f x.1 x.2.cpu.c).1
  exact ⟨e, x, t, u, he, hx, her, hxr, hts, hus, by simp only [rmwVia, he, hx, ht, hu, bind, Except.bind, pure, Except.pure]⟩

/-- A push stores its byte in the stack page and decrements SP. -/
theorem push_ok {s : State} (hp : s.plainCart) (hr : s.room 1) (v : Byte) :
    ∃ t, push v s = .ok (t.mapCpu Cpu.decSP) ∧ Stored (stackAddr s.cpu.sp) v s t := by
  obtain ⟨t, ht, hs⟩ := cycleWrite_plain hp hr (stackAddr s.cpu.sp) v
  exact ⟨t, by simp only [push, ht, bind, Except.bind, pure, Except.pure], hs⟩

/-- A pull increments SP and reads the stack page. -/
theorem pull_ok {s : State} (hp : s.plainCart) :
    ∃ x, pull s = .ok x ∧ Reads (s.mapCpu Cpu.incSP) x.2 ∧ x.2.cpu.t = s.cpu.t + 1 ∧
      (inRam (stackAddr (s.cpu.sp + 1)) → x.1 = s.ramByte (stackAddr (s.cpu.sp + 1))) := by
  have hb : Quiet s (s.mapCpu Cpu.incSP) := Quiet.mapCpu s _
  obtain ⟨x, hx, hr, ht⟩ := cycleRead_reads (hb.plainCart hp) (stackAddr (s.cpu.sp + 1))
  exact ⟨x, hx, hr, ht, fun h => cycleRead_ram (hb.plainCart hp) h hx⟩

theorem fetchByte_ok {s : State} (hp : s.plainCart) :
    ∃ x, cycleRead s.cpu.pc s = .ok x ∧ fetchByte s = .ok (x.1, x.2.mapCpu Cpu.incPC) ∧ Reads s x.2 ∧
      x.2.cpu.t = s.cpu.t + 1 := by
  obtain ⟨x, hx, hr, ht⟩ := cycleRead_reads hp s.cpu.pc
  exact ⟨x, hx, by simp only [fetchByte, hx, bind, Except.bind, pure, Except.pure], hr, ht⟩

theorem loadPC_ok {s : State} (hp : s.plainCart) (lo hi : Addr) :
    ∃ l h, cycleRead lo s = .ok l ∧ cycleRead hi l.2 = .ok h ∧
      loadPC lo hi s = .ok (h.2.mapCpu (Cpu.setPC (h.1 ++ l.1))) ∧ Reads s h.2 ∧ h.2.cpu.t = s.cpu.t + 2 := by
  obtain ⟨l, hl, hlr, hlt⟩ := cycleRead_reads hp lo
  obtain ⟨h, hh, hhr, hht⟩ := cycleRead_reads (hlr.plainCart hp) hi
  exact ⟨l, h, hl, hh, by simp only [loadPC, hl, hh, bind, Except.bind, pure, Except.pure], hlr.trans hhr, by
    rw [hht, hlt]⟩

/-- A branch reads where it must and goes where its condition says. -/
theorem branch_ok {s : State} (hp : s.plainCart) (taken : Cpu → Bool) (off : Byte) :
    ∃ t, branch taken off s = .ok (t.mapCpu (Cpu.setPC (if taken s.cpu then branchTo s.cpu.pc off else s.cpu.pc))) ∧
      Reads s t := by
  by_cases hc : taken s.cpu = true
  · obtain ⟨t, h, hr, -⟩ := dummyRead_reads hp s.cpu.pc
    by_cases hpage : (branchTo s.cpu.pc off).extractLsb' 8 8 = s.cpu.pc.extractLsb' 8 8
    · exact ⟨t, by simp only [branch, hc, hpage, if_true, h, bind, Except.bind, pure, Except.pure], hr⟩
    · obtain ⟨u, hu, hur, -⟩ := dummyRead_reads (hr.plainCart hp)
        (s.cpu.pc.extractLsb' 8 8 ++ (branchTo s.cpu.pc off).extractLsb' 0 8)
      exact ⟨u, by simp only [branch, hc, hpage, if_true, if_false, h, hu, bind, Except.bind, pure, Except.pure],
        hr.trans hur⟩
  · refine ⟨s, ?_, .refl s⟩
    simp only [branch, hc, if_false, pure, Except.pure, Bool.false_eq_true]
    rfl

end Sys2Proof.Machine
end

