-- ==== Sys2Proof/Laws/Fetch.lean ====
section
/-! SUPPORT. The bytes of the program as fetches find them. -/

namespace Sys2Proof.Machine

/-- Reads change no program byte. -/
theorem Quiet.codeByte {s t : State} (h : Quiet s t) (a : Addr) : t.codeByte a = s.codeByte a := by
  unfold State.codeByte State.ramByte Mapper.flatByte
  rw [h.read, h.outside.variant, h.outside.rom]
  split <;> (try rfl)
  split <;> (try rfl)
  rename_i hf
  rw [h.outside.flat hf]

theorem Reads.pc {s t : State} (h : Reads s t) : t.cpu.pc = s.cpu.pc := ((Cpu.arch_iff _ _).1 h.arch).2.2.2.2.1

theorem Reads.sp {s t : State} (h : Reads s t) : t.cpu.sp = s.cpu.sp := ((Cpu.arch_iff _ _).1 h.arch).2.2.2.1

/-- Reads keep every observable register. -/
theorem Reads.fields {s t : State} (h : Reads s t) : t.cpu.a = s.cpu.a ∧ t.cpu.x = s.cpu.x ∧ t.cpu.y = s.cpu.y ∧
    t.cpu.sp = s.cpu.sp ∧ t.cpu.pc = s.cpu.pc ∧ t.cpu.c = s.cpu.c ∧ t.cpu.z = s.cpu.z ∧ t.cpu.i = s.cpu.i ∧
    t.cpu.d = s.cpu.d ∧ t.cpu.v = s.cpu.v ∧ t.cpu.n = s.cpu.n ∧ t.cpu.jammed = s.cpu.jammed ∧
    t.cpu.resetting = s.cpu.resetting := (Cpu.arch_iff _ _).1 h.arch

theorem Cpu.incPC_regular : Cpu.Regular Cpu.incPC := fun _ => rfl

/-- A fetch delivers the program byte at the PC. -/
theorem fetchByte_code {s : State} (hp : s.plainCart) {b : Byte} (hb : s.codeByte s.cpu.pc = some b) :
    ∃ t, fetchByte s = .ok (b, t) ∧ t.cpu.arch = (Cpu.incPC s.cpu).arch ∧ Quiet s t ∧ t.cpu.pc = s.cpu.pc + 1 := by
  obtain ⟨x, hx, hf, hr, -⟩ := fetchByte_ok hp
  obtain rfl := cycleRead_code hp hb hx
  exact ⟨_, hf, Cpu.incPC_regular.congr hr.arch, hr.quiet.trans (Quiet.mapCpu _ _),
    congrArg (fun a => a + 1) hr.pc⟩

/-- A look at a program byte finds it. -/
theorem State.peek_code {s : State} {a : Addr} {b : Byte} (hb : s.codeByte a = some b) : s.peek a = b := by
  unfold State.codeByte at hb
  unfold State.peek State.deviceRead
  split at hb
  · rename_i h; rw [h]; exact Option.some.inj hb
  · rename_i h
    split at hb
    · rename_i hf
      rw [h]; simp only [State.mapperRead, hf]; exact Option.some.inj hb
    · simp at hb
  · simp at hb

end Sys2Proof.Machine
end

