-- ==== Sys2Proof/Laws/PerInstr.lean ====
section
/-! SUPPORT. Facts about every instruction as syntax, one lemma per constructor of `Instr`. -/

namespace Sys2Proof.Laws.EncodedLength

/-- An instruction takes one to three bytes (R131, R530). -/
def Statement (i : Instr) : Prop := 1 ≤ (encode i).length ∧ (encode i).length ≤ 3

theorem of_length {i : Instr} {n : Nat} (h : (encode i).length = n) (h1 : Nat.ble 1 n = true) (h3 : Nat.ble n 3 = true) :
    Statement i := ⟨h ▸ Nat.le_of_ble_eq_true h1, h ▸ Nat.le_of_ble_eq_true h3⟩

theorem brk : Statement (.brk) := of_length (n := 1) rfl rfl rfl
theorem oraIzx (b1 : Byte) : Statement (.oraIzx b1) := of_length (n := 2) rfl rfl rfl
theorem jam02 : Statement (.jam02) := of_length (n := 1) rfl rfl rfl
theorem sloIzx (b1 : Byte) : Statement (.sloIzx b1) := of_length (n := 2) rfl rfl rfl
theorem nopZp04 (b1 : Byte) : Statement (.nopZp04 b1) := of_length (n := 2) rfl rfl rfl
theorem oraZp (b1 : Byte) : Statement (.oraZp b1) := of_length (n := 2) rfl rfl rfl
theorem aslZp (b1 : Byte) : Statement (.aslZp b1) := of_length (n := 2) rfl rfl rfl
theorem sloZp (b1 : Byte) : Statement (.sloZp b1) := of_length (n := 2) rfl rfl rfl
theorem php : Statement (.php) := of_length (n := 1) rfl rfl rfl
theorem oraImm (b1 : Byte) : Statement (.oraImm b1) := of_length (n := 2) rfl rfl rfl
theorem aslAcc : Statement (.aslAcc) := of_length (n := 1) rfl rfl rfl
theorem ancImm0B (b1 : Byte) : Statement (.ancImm0B b1) := of_length (n := 2) rfl rfl rfl
theorem nopAbs (b1 b2 : Byte) : Statement (.nopAbs b1 b2) := of_length (n := 3) rfl rfl rfl
theorem oraAbs (b1 b2 : Byte) : Statement (.oraAbs b1 b2) := of_length (n := 3) rfl rfl rfl
theorem aslAbs (b1 b2 : Byte) : Statement (.aslAbs b1 b2) := of_length (n := 3) rfl rfl rfl
theorem sloAbs (b1 b2 : Byte) : Statement (.sloAbs b1 b2) := of_length (n := 3) rfl rfl rfl
theorem bpl (b1 : Byte) : Statement (.bpl b1) := of_length (n := 2) rfl rfl rfl
theorem oraIzy (b1 : Byte) : Statement (.oraIzy b1) := of_length (n := 2) rfl rfl rfl
theorem jam12 : Statement (.jam12) := of_length (n := 1) rfl rfl rfl
theorem sloIzy (b1 : Byte) : Statement (.sloIzy b1) := of_length (n := 2) rfl rfl rfl
theorem nopZpx14 (b1 : Byte) : Statement (.nopZpx14 b1) := of_length (n := 2) rfl rfl rfl
theorem oraZpx (b1 : Byte) : Statement (.oraZpx b1) := of_length (n := 2) rfl rfl rfl
theorem aslZpx (b1 : Byte) : Statement (.aslZpx b1) := of_length (n := 2) rfl rfl rfl
theorem sloZpx (b1 : Byte) : Statement (.sloZpx b1) := of_length (n := 2) rfl rfl rfl
theorem clc : Statement (.clc) := of_length (n := 1) rfl rfl rfl
theorem oraAby (b1 b2 : Byte) : Statement (.oraAby b1 b2) := of_length (n := 3) rfl rfl rfl
theorem nop1A : Statement (.nop1A) := of_length (n := 1) rfl rfl rfl
theorem sloAby (b1 b2 : Byte) : Statement (.sloAby b1 b2) := of_length (n := 3) rfl rfl rfl
theorem nopAbx1C (b1 b2 : Byte) : Statement (.nopAbx1C b1 b2) := of_length (n := 3) rfl rfl rfl
theorem oraAbx (b1 b2 : Byte) : Statement (.oraAbx b1 b2) := of_length (n := 3) rfl rfl rfl
theorem aslAbx (b1 b2 : Byte) : Statement (.aslAbx b1 b2) := of_length (n := 3) rfl rfl rfl
theorem sloAbx (b1 b2 : Byte) : Statement (.sloAbx b1 b2) := of_length (n := 3) rfl rfl rfl
theorem jsrAbs (b1 b2 : Byte) : Statement (.jsrAbs b1 b2) := of_length (n := 3) rfl rfl rfl
theorem andIzx (b1 : Byte) : Statement (.andIzx b1) := of_length (n := 2) rfl rfl rfl
theorem jam22 : Statement (.jam22) := of_length (n := 1) rfl rfl rfl
theorem rlaIzx (b1 : Byte) : Statement (.rlaIzx b1) := of_length (n := 2) rfl rfl rfl
theorem bitZp (b1 : Byte) : Statement (.bitZp b1) := of_length (n := 2) rfl rfl rfl
theorem andZp (b1 : Byte) : Statement (.andZp b1) := of_length (n := 2) rfl rfl rfl
theorem rolZp (b1 : Byte) : Statement (.rolZp b1) := of_length (n := 2) rfl rfl rfl
theorem rlaZp (b1 : Byte) : Statement (.rlaZp b1) := of_length (n := 2) rfl rfl rfl
theorem plp : Statement (.plp) := of_length (n := 1) rfl rfl rfl
theorem andImm (b1 : Byte) : Statement (.andImm b1) := of_length (n := 2) rfl rfl rfl
theorem rolAcc : Statement (.rolAcc) := of_length (n := 1) rfl rfl rfl
theorem ancImm2B (b1 : Byte) : Statement (.ancImm2B b1) := of_length (n := 2) rfl rfl rfl
theorem bitAbs (b1 b2 : Byte) : Statement (.bitAbs b1 b2) := of_length (n := 3) rfl rfl rfl
theorem andAbs (b1 b2 : Byte) : Statement (.andAbs b1 b2) := of_length (n := 3) rfl rfl rfl
theorem rolAbs (b1 b2 : Byte) : Statement (.rolAbs b1 b2) := of_length (n := 3) rfl rfl rfl
theorem rlaAbs (b1 b2 : Byte) : Statement (.rlaAbs b1 b2) := of_length (n := 3) rfl rfl rfl
theorem bmi (b1 : Byte) : Statement (.bmi b1) := of_length (n := 2) rfl rfl rfl
theorem andIzy (b1 : Byte) : Statement (.andIzy b1) := of_length (n := 2) rfl rfl rfl
theorem jam32 : Statement (.jam32) := of_length (n := 1) rfl rfl rfl
theorem rlaIzy (b1 : Byte) : Statement (.rlaIzy b1) := of_length (n := 2) rfl rfl rfl
theorem nopZpx34 (b1 : Byte) : Statement (.nopZpx34 b1) := of_length (n := 2) rfl rfl rfl
theorem andZpx (b1 : Byte) : Statement (.andZpx b1) := of_length (n := 2) rfl rfl rfl
theorem rolZpx (b1 : Byte) : Statement (.rolZpx b1) := of_length (n := 2) rfl rfl rfl
theorem rlaZpx (b1 : Byte) : Statement (.rlaZpx b1) := of_length (n := 2) rfl rfl rfl
theorem sec : Statement (.sec) := of_length (n := 1) rfl rfl rfl
theorem andAby (b1 b2 : Byte) : Statement (.andAby b1 b2) := of_length (n := 3) rfl rfl rfl
theorem nop3A : Statement (.nop3A) := of_length (n := 1) rfl rfl rfl
theorem rlaAby (b1 b2 : Byte) : Statement (.rlaAby b1 b2) := of_length (n := 3) rfl rfl rfl
theorem nopAbx3C (b1 b2 : Byte) : Statement (.nopAbx3C b1 b2) := of_length (n := 3) rfl rfl rfl
theorem andAbx (b1 b2 : Byte) : Statement (.andAbx b1 b2) := of_length (n := 3) rfl rfl rfl
theorem rolAbx (b1 b2 : Byte) : Statement (.rolAbx b1 b2) := of_length (n := 3) rfl rfl rfl
theorem rlaAbx (b1 b2 : Byte) : Statement (.rlaAbx b1 b2) := of_length (n := 3) rfl rfl rfl
theorem rti : Statement (.rti) := of_length (n := 1) rfl rfl rfl
theorem eorIzx (b1 : Byte) : Statement (.eorIzx b1) := of_length (n := 2) rfl rfl rfl
theorem jam42 : Statement (.jam42) := of_length (n := 1) rfl rfl rfl
theorem sreIzx (b1 : Byte) : Statement (.sreIzx b1) := of_length (n := 2) rfl rfl rfl
theorem nopZp44 (b1 : Byte) : Statement (.nopZp44 b1) := of_length (n := 2) rfl rfl rfl
theorem eorZp (b1 : Byte) : Statement (.eorZp b1) := of_length (n := 2) rfl rfl rfl
theorem lsrZp (b1 : Byte) : Statement (.lsrZp b1) := of_length (n := 2) rfl rfl rfl
theorem sreZp (b1 : Byte) : Statement (.sreZp b1) := of_length (n := 2) rfl rfl rfl
theorem pha : Statement (.pha) := of_length (n := 1) rfl rfl rfl
theorem eorImm (b1 : Byte) : Statement (.eorImm b1) := of_length (n := 2) rfl rfl rfl
theorem lsrAcc : Statement (.lsrAcc) := of_length (n := 1) rfl rfl rfl
theorem alrImm (b1 : Byte) : Statement (.alrImm b1) := of_length (n := 2) rfl rfl rfl
theorem jmpAbs (b1 b2 : Byte) : Statement (.jmpAbs b1 b2) := of_length (n := 3) rfl rfl rfl
theorem eorAbs (b1 b2 : Byte) : Statement (.eorAbs b1 b2) := of_length (n := 3) rfl rfl rfl
theorem lsrAbs (b1 b2 : Byte) : Statement (.lsrAbs b1 b2) := of_length (n := 3) rfl rfl rfl
theorem sreAbs (b1 b2 : Byte) : Statement (.sreAbs b1 b2) := of_length (n := 3) rfl rfl rfl
theorem bvc (b1 : Byte) : Statement (.bvc b1) := of_length (n := 2) rfl rfl rfl
theorem eorIzy (b1 : Byte) : Statement (.eorIzy b1) := of_length (n := 2) rfl rfl rfl
theorem jam52 : Statement (.jam52) := of_length (n := 1) rfl rfl rfl
theorem sreIzy (b1 : Byte) : Statement (.sreIzy b1) := of_length (n := 2) rfl rfl rfl
theorem nopZpx54 (b1 : Byte) : Statement (.nopZpx54 b1) := of_length (n := 2) rfl rfl rfl
theorem eorZpx (b1 : Byte) : Statement (.eorZpx b1) := of_length (n := 2) rfl rfl rfl
theorem lsrZpx (b1 : Byte) : Statement (.lsrZpx b1) := of_length (n := 2) rfl rfl rfl
theorem sreZpx (b1 : Byte) : Statement (.sreZpx b1) := of_length (n := 2) rfl rfl rfl
theorem cli : Statement (.cli) := of_length (n := 1) rfl rfl rfl
theorem eorAby (b1 b2 : Byte) : Statement (.eorAby b1 b2) := of_length (n := 3) rfl rfl rfl
theorem nop5A : Statement (.nop5A) := of_length (n := 1) rfl rfl rfl
theorem sreAby (b1 b2 : Byte) : Statement (.sreAby b1 b2) := of_length (n := 3) rfl rfl rfl
theorem nopAbx5C (b1 b2 : Byte) : Statement (.nopAbx5C b1 b2) := of_length (n := 3) rfl rfl rfl
theorem eorAbx (b1 b2 : Byte) : Statement (.eorAbx b1 b2) := of_length (n := 3) rfl rfl rfl
theorem lsrAbx (b1 b2 : Byte) : Statement (.lsrAbx b1 b2) := of_length (n := 3) rfl rfl rfl
theorem sreAbx (b1 b2 : Byte) : Statement (.sreAbx b1 b2) := of_length (n := 3) rfl rfl rfl
theorem rts : Statement (.rts) := of_length (n := 1) rfl rfl rfl
theorem adcIzx (b1 : Byte) : Statement (.adcIzx b1) := of_length (n := 2) rfl rfl rfl
theorem jam62 : Statement (.jam62) := of_length (n := 1) rfl rfl rfl
theorem rraIzx (b1 : Byte) : Statement (.rraIzx b1) := of_length (n := 2) rfl rfl rfl
theorem nopZp64 (b1 : Byte) : Statement (.nopZp64 b1) := of_length (n := 2) rfl rfl rfl
theorem adcZp (b1 : Byte) : Statement (.adcZp b1) := of_length (n := 2) rfl rfl rfl
theorem rorZp (b1 : Byte) : Statement (.rorZp b1) := of_length (n := 2) rfl rfl rfl
theorem rraZp (b1 : Byte) : Statement (.rraZp b1) := of_length (n := 2) rfl rfl rfl
theorem pla : Statement (.pla) := of_length (n := 1) rfl rfl rfl
theorem adcImm (b1 : Byte) : Statement (.adcImm b1) := of_length (n := 2) rfl rfl rfl
theorem rorAcc : Statement (.rorAcc) := of_length (n := 1) rfl rfl rfl
theorem arrImm (b1 : Byte) : Statement (.arrImm b1) := of_length (n := 2) rfl rfl rfl
theorem jmpInd (b1 b2 : Byte) : Statement (.jmpInd b1 b2) := of_length (n := 3) rfl rfl rfl
theorem adcAbs (b1 b2 : Byte) : Statement (.adcAbs b1 b2) := of_length (n := 3) rfl rfl rfl
theorem rorAbs (b1 b2 : Byte) : Statement (.rorAbs b1 b2) := of_length (n := 3) rfl rfl rfl
theorem rraAbs (b1 b2 : Byte) : Statement (.rraAbs b1 b2) := of_length (n := 3) rfl rfl rfl
theorem bvs (b1 : Byte) : Statement (.bvs b1) := of_length (n := 2) rfl rfl rfl
theorem adcIzy (b1 : Byte) : Statement (.adcIzy b1) := of_length (n := 2) rfl rfl rfl
theorem jam72 : Statement (.jam72) := of_length (n := 1) rfl rfl rfl
theorem rraIzy (b1 : Byte) : Statement (.rraIzy b1) := of_length (n := 2) rfl rfl rfl
theorem nopZpx74 (b1 : Byte) : Statement (.nopZpx74 b1) := of_length (n := 2) rfl rfl rfl
theorem adcZpx (b1 : Byte) : Statement (.adcZpx b1) := of_length (n := 2) rfl rfl rfl
theorem rorZpx (b1 : Byte) : Statement (.rorZpx b1) := of_length (n := 2) rfl rfl rfl
theorem rraZpx (b1 : Byte) : Statement (.rraZpx b1) := of_length (n := 2) rfl rfl rfl
theorem sei : Statement (.sei) := of_length (n := 1) rfl rfl rfl
theorem adcAby (b1 b2 : Byte) : Statement (.adcAby b1 b2) := of_length (n := 3) rfl rfl rfl
theorem nop7A : Statement (.nop7A) := of_length (n := 1) rfl rfl rfl
theorem rraAby (b1 b2 : Byte) : Statement (.rraAby b1 b2) := of_length (n := 3) rfl rfl rfl
theorem nopAbx7C (b1 b2 : Byte) : Statement (.nopAbx7C b1 b2) := of_length (n := 3) rfl rfl rfl
theorem adcAbx (b1 b2 : Byte) : Statement (.adcAbx b1 b2) := of_length (n := 3) rfl rfl rfl
theorem rorAbx (b1 b2 : Byte) : Statement (.rorAbx b1 b2) := of_length (n := 3) rfl rfl rfl
theorem rraAbx (b1 b2 : Byte) : Statement (.rraAbx b1 b2) := of_length (n := 3) rfl rfl rfl
theorem nopImm80 (b1 : Byte) : Statement (.nopImm80 b1) := of_length (n := 2) rfl rfl rfl
theorem staIzx (b1 : Byte) : Statement (.staIzx b1) := of_length (n := 2) rfl rfl rfl
theorem nopImm82 (b1 : Byte) : Statement (.nopImm82 b1) := of_length (n := 2) rfl rfl rfl
theorem saxIzx (b1 : Byte) : Statement (.saxIzx b1) := of_length (n := 2) rfl rfl rfl
theorem styZp (b1 : Byte) : Statement (.styZp b1) := of_length (n := 2) rfl rfl rfl
theorem staZp (b1 : Byte) : Statement (.staZp b1) := of_length (n := 2) rfl rfl rfl
theorem stxZp (b1 : Byte) : Statement (.stxZp b1) := of_length (n := 2) rfl rfl rfl
theorem saxZp (b1 : Byte) : Statement (.saxZp b1) := of_length (n := 2) rfl rfl rfl
theorem dey : Statement (.dey) := of_length (n := 1) rfl rfl rfl
theorem nopImm89 (b1 : Byte) : Statement (.nopImm89 b1) := of_length (n := 2) rfl rfl rfl
theorem txa : Statement (.txa) := of_length (n := 1) rfl rfl rfl
theorem aneImm (b1 : Byte) : Statement (.aneImm b1) := of_length (n := 2) rfl rfl rfl
theorem styAbs (b1 b2 : Byte) : Statement (.styAbs b1 b2) := of_length (n := 3) rfl rfl rfl
theorem staAbs (b1 b2 : Byte) : Statement (.staAbs b1 b2) := of_length (n := 3) rfl rfl rfl
theorem stxAbs (b1 b2 : Byte) : Statement (.stxAbs b1 b2) := of_length (n := 3) rfl rfl rfl
theorem saxAbs (b1 b2 : Byte) : Statement (.saxAbs b1 b2) := of_length (n := 3) rfl rfl rfl
theorem bcc (b1 : Byte) : Statement (.bcc b1) := of_length (n := 2) rfl rfl rfl
theorem staIzy (b1 : Byte) : Statement (.staIzy b1) := of_length (n := 2) rfl rfl rfl
theorem jam92 : Statement (.jam92) := of_length (n := 1) rfl rfl rfl
theorem shaIzy (b1 : Byte) : Statement (.shaIzy b1) := of_length (n := 2) rfl rfl rfl
theorem styZpx (b1 : Byte) : Statement (.styZpx b1) := of_length (n := 2) rfl rfl rfl
theorem staZpx (b1 : Byte) : Statement (.staZpx b1) := of_length (n := 2) rfl rfl rfl
theorem stxZpy (b1 : Byte) : Statement (.stxZpy b1) := of_length (n := 2) rfl rfl rfl
theorem saxZpy (b1 : Byte) : Statement (.saxZpy b1) := of_length (n := 2) rfl rfl rfl
theorem tya : Statement (.tya) := of_length (n := 1) rfl rfl rfl
theorem staAby (b1 b2 : Byte) : Statement (.staAby b1 b2) := of_length (n := 3) rfl rfl rfl
theorem txs : Statement (.txs) := of_length (n := 1) rfl rfl rfl
theorem tasAby (b1 b2 : Byte) : Statement (.tasAby b1 b2) := of_length (n := 3) rfl rfl rfl
theorem shyAbx (b1 b2 : Byte) : Statement (.shyAbx b1 b2) := of_length (n := 3) rfl rfl rfl
theorem staAbx (b1 b2 : Byte) : Statement (.staAbx b1 b2) := of_length (n := 3) rfl rfl rfl
theorem shxAby (b1 b2 : Byte) : Statement (.shxAby b1 b2) := of_length (n := 3) rfl rfl rfl
theorem shaAby (b1 b2 : Byte) : Statement (.shaAby b1 b2) := of_length (n := 3) rfl rfl rfl
theorem ldyImm (b1 : Byte) : Statement (.ldyImm b1) := of_length (n := 2) rfl rfl rfl
theorem ldaIzx (b1 : Byte) : Statement (.ldaIzx b1) := of_length (n := 2) rfl rfl rfl
theorem ldxImm (b1 : Byte) : Statement (.ldxImm b1) := of_length (n := 2) rfl rfl rfl
theorem laxIzx (b1 : Byte) : Statement (.laxIzx b1) := of_length (n := 2) rfl rfl rfl
theorem ldyZp (b1 : Byte) : Statement (.ldyZp b1) := of_length (n := 2) rfl rfl rfl
theorem ldaZp (b1 : Byte) : Statement (.ldaZp b1) := of_length (n := 2) rfl rfl rfl
theorem ldxZp (b1 : Byte) : Statement (.ldxZp b1) := of_length (n := 2) rfl rfl rfl
theorem laxZp (b1 : Byte) : Statement (.laxZp b1) := of_length (n := 2) rfl rfl rfl
theorem tay : Statement (.tay) := of_length (n := 1) rfl rfl rfl
theorem ldaImm (b1 : Byte) : Statement (.ldaImm b1) := of_length (n := 2) rfl rfl rfl
theorem tax : Statement (.tax) := of_length (n := 1) rfl rfl rfl
theorem lxaImm (b1 : Byte) : Statement (.lxaImm b1) := of_length (n := 2) rfl rfl rfl
theorem ldyAbs (b1 b2 : Byte) : Statement (.ldyAbs b1 b2) := of_length (n := 3) rfl rfl rfl
theorem ldaAbs (b1 b2 : Byte) : Statement (.ldaAbs b1 b2) := of_length (n := 3) rfl rfl rfl
theorem ldxAbs (b1 b2 : Byte) : Statement (.ldxAbs b1 b2) := of_length (n := 3) rfl rfl rfl
theorem laxAbs (b1 b2 : Byte) : Statement (.laxAbs b1 b2) := of_length (n := 3) rfl rfl rfl
theorem bcs (b1 : Byte) : Statement (.bcs b1) := of_length (n := 2) rfl rfl rfl
theorem ldaIzy (b1 : Byte) : Statement (.ldaIzy b1) := of_length (n := 2) rfl rfl rfl
theorem jamB2 : Statement (.jamB2) := of_length (n := 1) rfl rfl rfl
theorem laxIzy (b1 : Byte) : Statement (.laxIzy b1) := of_length (n := 2) rfl rfl rfl
theorem ldyZpx (b1 : Byte) : Statement (.ldyZpx b1) := of_length (n := 2) rfl rfl rfl
theorem ldaZpx (b1 : Byte) : Statement (.ldaZpx b1) := of_length (n := 2) rfl rfl rfl
theorem ldxZpy (b1 : Byte) : Statement (.ldxZpy b1) := of_length (n := 2) rfl rfl rfl
theorem laxZpy (b1 : Byte) : Statement (.laxZpy b1) := of_length (n := 2) rfl rfl rfl
theorem clv : Statement (.clv) := of_length (n := 1) rfl rfl rfl
theorem ldaAby (b1 b2 : Byte) : Statement (.ldaAby b1 b2) := of_length (n := 3) rfl rfl rfl
theorem tsx : Statement (.tsx) := of_length (n := 1) rfl rfl rfl
theorem lasAby (b1 b2 : Byte) : Statement (.lasAby b1 b2) := of_length (n := 3) rfl rfl rfl
theorem ldyAbx (b1 b2 : Byte) : Statement (.ldyAbx b1 b2) := of_length (n := 3) rfl rfl rfl
theorem ldaAbx (b1 b2 : Byte) : Statement (.ldaAbx b1 b2) := of_length (n := 3) rfl rfl rfl
theorem ldxAby (b1 b2 : Byte) : Statement (.ldxAby b1 b2) := of_length (n := 3) rfl rfl rfl
theorem laxAby (b1 b2 : Byte) : Statement (.laxAby b1 b2) := of_length (n := 3) rfl rfl rfl
theorem cpyImm (b1 : Byte) : Statement (.cpyImm b1) := of_length (n := 2) rfl rfl rfl
theorem cmpIzx (b1 : Byte) : Statement (.cmpIzx b1) := of_length (n := 2) rfl rfl rfl
theorem nopImmC2 (b1 : Byte) : Statement (.nopImmC2 b1) := of_length (n := 2) rfl rfl rfl
theorem dcpIzx (b1 : Byte) : Statement (.dcpIzx b1) := of_length (n := 2) rfl rfl rfl
theorem cpyZp (b1 : Byte) : Statement (.cpyZp b1) := of_length (n := 2) rfl rfl rfl
theorem cmpZp (b1 : Byte) : Statement (.cmpZp b1) := of_length (n := 2) rfl rfl rfl
theorem decZp (b1 : Byte) : Statement (.decZp b1) := of_length (n := 2) rfl rfl rfl
theorem dcpZp (b1 : Byte) : Statement (.dcpZp b1) := of_length (n := 2) rfl rfl rfl
theorem iny : Statement (.iny) := of_length (n := 1) rfl rfl rfl
theorem cmpImm (b1 : Byte) : Statement (.cmpImm b1) := of_length (n := 2) rfl rfl rfl
theorem dex : Statement (.dex) := of_length (n := 1) rfl rfl rfl
theorem sbxImm (b1 : Byte) : Statement (.sbxImm b1) := of_length (n := 2) rfl rfl rfl
theorem cpyAbs (b1 b2 : Byte) : Statement (.cpyAbs b1 b2) := of_length (n := 3) rfl rfl rfl
theorem cmpAbs (b1 b2 : Byte) : Statement (.cmpAbs b1 b2) := of_length (n := 3) rfl rfl rfl
theorem decAbs (b1 b2 : Byte) : Statement (.decAbs b1 b2) := of_length (n := 3) rfl rfl rfl
theorem dcpAbs (b1 b2 : Byte) : Statement (.dcpAbs b1 b2) := of_length (n := 3) rfl rfl rfl
theorem bne (b1 : Byte) : Statement (.bne b1) := of_length (n := 2) rfl rfl rfl
theorem cmpIzy (b1 : Byte) : Statement (.cmpIzy b1) := of_length (n := 2) rfl rfl rfl
theorem jamD2 : Statement (.jamD2) := of_length (n := 1) rfl rfl rfl
theorem dcpIzy (b1 : Byte) : Statement (.dcpIzy b1) := of_length (n := 2) rfl rfl rfl
theorem nopZpxD4 (b1 : Byte) : Statement (.nopZpxD4 b1) := of_length (n := 2) rfl rfl rfl
theorem cmpZpx (b1 : Byte) : Statement (.cmpZpx b1) := of_length (n := 2) rfl rfl rfl
theorem decZpx (b1 : Byte) : Statement (.decZpx b1) := of_length (n := 2) rfl rfl rfl
theorem dcpZpx (b1 : Byte) : Statement (.dcpZpx b1) := of_length (n := 2) rfl rfl rfl
theorem cld : Statement (.cld) := of_length (n := 1) rfl rfl rfl
theorem cmpAby (b1 b2 : Byte) : Statement (.cmpAby b1 b2) := of_length (n := 3) rfl rfl rfl
theorem nopDA : Statement (.nopDA) := of_length (n := 1) rfl rfl rfl
theorem dcpAby (b1 b2 : Byte) : Statement (.dcpAby b1 b2) := of_length (n := 3) rfl rfl rfl
theorem nopAbxDC (b1 b2 : Byte) : Statement (.nopAbxDC b1 b2) := of_length (n := 3) rfl rfl rfl
theorem cmpAbx (b1 b2 : Byte) : Statement (.cmpAbx b1 b2) := of_length (n := 3) rfl rfl rfl
theorem decAbx (b1 b2 : Byte) : Statement (.decAbx b1 b2) := of_length (n := 3) rfl rfl rfl
theorem dcpAbx (b1 b2 : Byte) : Statement (.dcpAbx b1 b2) := of_length (n := 3) rfl rfl rfl
theorem cpxImm (b1 : Byte) : Statement (.cpxImm b1) := of_length (n := 2) rfl rfl rfl
theorem sbcIzx (b1 : Byte) : Statement (.sbcIzx b1) := of_length (n := 2) rfl rfl rfl
theorem nopImmE2 (b1 : Byte) : Statement (.nopImmE2 b1) := of_length (n := 2) rfl rfl rfl
theorem iscIzx (b1 : Byte) : Statement (.iscIzx b1) := of_length (n := 2) rfl rfl rfl
theorem cpxZp (b1 : Byte) : Statement (.cpxZp b1) := of_length (n := 2) rfl rfl rfl
theorem sbcZp (b1 : Byte) : Statement (.sbcZp b1) := of_length (n := 2) rfl rfl rfl
theorem incZp (b1 : Byte) : Statement (.incZp b1) := of_length (n := 2) rfl rfl rfl
theorem iscZp (b1 : Byte) : Statement (.iscZp b1) := of_length (n := 2) rfl rfl rfl
theorem inx : Statement (.inx) := of_length (n := 1) rfl rfl rfl
theorem sbcImm (b1 : Byte) : Statement (.sbcImm b1) := of_length (n := 2) rfl rfl rfl
theorem nop : Statement (.nop) := of_length (n := 1) rfl rfl rfl
theorem sbcImmEB (b1 : Byte) : Statement (.sbcImmEB b1) := of_length (n := 2) rfl rfl rfl
theorem cpxAbs (b1 b2 : Byte) : Statement (.cpxAbs b1 b2) := of_length (n := 3) rfl rfl rfl
theorem sbcAbs (b1 b2 : Byte) : Statement (.sbcAbs b1 b2) := of_length (n := 3) rfl rfl rfl
theorem incAbs (b1 b2 : Byte) : Statement (.incAbs b1 b2) := of_length (n := 3) rfl rfl rfl
theorem iscAbs (b1 b2 : Byte) : Statement (.iscAbs b1 b2) := of_length (n := 3) rfl rfl rfl
theorem beq (b1 : Byte) : Statement (.beq b1) := of_length (n := 2) rfl rfl rfl
theorem sbcIzy (b1 : Byte) : Statement (.sbcIzy b1) := of_length (n := 2) rfl rfl rfl
theorem jamF2 : Statement (.jamF2) := of_length (n := 1) rfl rfl rfl
theorem iscIzy (b1 : Byte) : Statement (.iscIzy b1) := of_length (n := 2) rfl rfl rfl
theorem nopZpxF4 (b1 : Byte) : Statement (.nopZpxF4 b1) := of_length (n := 2) rfl rfl rfl
theorem sbcZpx (b1 : Byte) : Statement (.sbcZpx b1) := of_length (n := 2) rfl rfl rfl
theorem incZpx (b1 : Byte) : Statement (.incZpx b1) := of_length (n := 2) rfl rfl rfl
theorem iscZpx (b1 : Byte) : Statement (.iscZpx b1) := of_length (n := 2) rfl rfl rfl
theorem sed : Statement (.sed) := of_length (n := 1) rfl rfl rfl
theorem sbcAby (b1 b2 : Byte) : Statement (.sbcAby b1 b2) := of_length (n := 3) rfl rfl rfl
theorem nopFA : Statement (.nopFA) := of_length (n := 1) rfl rfl rfl
theorem iscAby (b1 b2 : Byte) : Statement (.iscAby b1 b2) := of_length (n := 3) rfl rfl rfl
theorem nopAbxFC (b1 b2 : Byte) : Statement (.nopAbxFC b1 b2) := of_length (n := 3) rfl rfl rfl
theorem sbcAbx (b1 b2 : Byte) : Statement (.sbcAbx b1 b2) := of_length (n := 3) rfl rfl rfl
theorem incAbx (b1 b2 : Byte) : Statement (.incAbx b1 b2) := of_length (n := 3) rfl rfl rfl
theorem iscAbx (b1 b2 : Byte) : Statement (.iscAbx b1 b2) := of_length (n := 3) rfl rfl rfl
theorem tLslImm (rd : BitVec 3) (rs : BitVec 3) (off : BitVec 5) : Statement (.tLslImm rd rs off) := of_length (n := 2) rfl rfl rfl
theorem tLsrImm (rd : BitVec 3) (rs : BitVec 3) (off : BitVec 5) : Statement (.tLsrImm rd rs off) := of_length (n := 2) rfl rfl rfl
theorem tAsrImm (rd : BitVec 3) (rs : BitVec 3) (off : BitVec 5) : Statement (.tAsrImm rd rs off) := of_length (n := 2) rfl rfl rfl
theorem tAddReg (rd : BitVec 3) (rs : BitVec 3) (rn : BitVec 3) : Statement (.tAddReg rd rs rn) := of_length (n := 2) rfl rfl rfl
theorem tSubReg (rd : BitVec 3) (rs : BitVec 3) (rn : BitVec 3) : Statement (.tSubReg rd rs rn) := of_length (n := 2) rfl rfl rfl
theorem tAddImm3 (rd : BitVec 3) (rs : BitVec 3) (imm : BitVec 3) : Statement (.tAddImm3 rd rs imm) := of_length (n := 2) rfl rfl rfl
theorem tSubImm3 (rd : BitVec 3) (rs : BitVec 3) (imm : BitVec 3) : Statement (.tSubImm3 rd rs imm) := of_length (n := 2) rfl rfl rfl
theorem tMovImm (rd : BitVec 3) (imm : BitVec 8) : Statement (.tMovImm rd imm) := of_length (n := 2) rfl rfl rfl
theorem tCmpImm (rd : BitVec 3) (imm : BitVec 8) : Statement (.tCmpImm rd imm) := of_length (n := 2) rfl rfl rfl
theorem tAddImm8 (rd : BitVec 3) (imm : BitVec 8) : Statement (.tAddImm8 rd imm) := of_length (n := 2) rfl rfl rfl
theorem tSubImm8 (rd : BitVec 3) (imm : BitVec 8) : Statement (.tSubImm8 rd imm) := of_length (n := 2) rfl rfl rfl
theorem tAnd (rd : BitVec 3) (rs : BitVec 3) : Statement (.tAnd rd rs) := of_length (n := 2) rfl rfl rfl
theorem tEor (rd : BitVec 3) (rs : BitVec 3) : Statement (.tEor rd rs) := of_length (n := 2) rfl rfl rfl
theorem tLslReg (rd : BitVec 3) (rs : BitVec 3) : Statement (.tLslReg rd rs) := of_length (n := 2) rfl rfl rfl
theorem tLsrReg (rd : BitVec 3) (rs : BitVec 3) : Statement (.tLsrReg rd rs) := of_length (n := 2) rfl rfl rfl
theorem tAsrReg (rd : BitVec 3) (rs : BitVec 3) : Statement (.tAsrReg rd rs) := of_length (n := 2) rfl rfl rfl
theorem tAdc (rd : BitVec 3) (rs : BitVec 3) : Statement (.tAdc rd rs) := of_length (n := 2) rfl rfl rfl
theorem tSbc (rd : BitVec 3) (rs : BitVec 3) : Statement (.tSbc rd rs) := of_length (n := 2) rfl rfl rfl
theorem tRorReg (rd : BitVec 3) (rs : BitVec 3) : Statement (.tRorReg rd rs) := of_length (n := 2) rfl rfl rfl
theorem tTst (rd : BitVec 3) (rs : BitVec 3) : Statement (.tTst rd rs) := of_length (n := 2) rfl rfl rfl
theorem tNeg (rd : BitVec 3) (rs : BitVec 3) : Statement (.tNeg rd rs) := of_length (n := 2) rfl rfl rfl
theorem tCmpReg (rd : BitVec 3) (rs : BitVec 3) : Statement (.tCmpReg rd rs) := of_length (n := 2) rfl rfl rfl
theorem tCmn (rd : BitVec 3) (rs : BitVec 3) : Statement (.tCmn rd rs) := of_length (n := 2) rfl rfl rfl
theorem tOrr (rd : BitVec 3) (rs : BitVec 3) : Statement (.tOrr rd rs) := of_length (n := 2) rfl rfl rfl
theorem tMul (rd : BitVec 3) (rs : BitVec 3) : Statement (.tMul rd rs) := of_length (n := 2) rfl rfl rfl
theorem tBic (rd : BitVec 3) (rs : BitVec 3) : Statement (.tBic rd rs) := of_length (n := 2) rfl rfl rfl
theorem tMvn (rd : BitVec 3) (rs : BitVec 3) : Statement (.tMvn rd rs) := of_length (n := 2) rfl rfl rfl
theorem tAddHi (rd : BitVec 4) (rs : BitVec 4) : Statement (.tAddHi rd rs) := of_length (n := 2) rfl rfl rfl
theorem tCmpHi (rd : BitVec 4) (rs : BitVec 4) : Statement (.tCmpHi rd rs) := of_length (n := 2) rfl rfl rfl
theorem tMovHi (rd : BitVec 4) (rs : BitVec 4) : Statement (.tMovHi rd rs) := of_length (n := 2) rfl rfl rfl
theorem tBx (rs : BitVec 4) : Statement (.tBx rs) := of_length (n := 2) rfl rfl rfl
theorem tLdrPc (rd : BitVec 3) (imm : BitVec 8) : Statement (.tLdrPc rd imm) := of_length (n := 2) rfl rfl rfl
theorem tStrReg (rd : BitVec 3) (rb : BitVec 3) (ro : BitVec 3) : Statement (.tStrReg rd rb ro) := of_length (n := 2) rfl rfl rfl
theorem tStrbReg (rd : BitVec 3) (rb : BitVec 3) (ro : BitVec 3) : Statement (.tStrbReg rd rb ro) := of_length (n := 2) rfl rfl rfl
theorem tLdrReg (rd : BitVec 3) (rb : BitVec 3) (ro : BitVec 3) : Statement (.tLdrReg rd rb ro) := of_length (n := 2) rfl rfl rfl
theorem tLdrbReg (rd : BitVec 3) (rb : BitVec 3) (ro : BitVec 3) : Statement (.tLdrbReg rd rb ro) := of_length (n := 2) rfl rfl rfl
theorem tStrhReg (rd : BitVec 3) (rb : BitVec 3) (ro : BitVec 3) : Statement (.tStrhReg rd rb ro) := of_length (n := 2) rfl rfl rfl
theorem tLdrhReg (rd : BitVec 3) (rb : BitVec 3) (ro : BitVec 3) : Statement (.tLdrhReg rd rb ro) := of_length (n := 2) rfl rfl rfl
theorem tLdsbReg (rd : BitVec 3) (rb : BitVec 3) (ro : BitVec 3) : Statement (.tLdsbReg rd rb ro) := of_length (n := 2) rfl rfl rfl
theorem tLdshReg (rd : BitVec 3) (rb : BitVec 3) (ro : BitVec 3) : Statement (.tLdshReg rd rb ro) := of_length (n := 2) rfl rfl rfl
theorem tStrImm (rd : BitVec 3) (rb : BitVec 3) (off : BitVec 5) : Statement (.tStrImm rd rb off) := of_length (n := 2) rfl rfl rfl
theorem tLdrImm (rd : BitVec 3) (rb : BitVec 3) (off : BitVec 5) : Statement (.tLdrImm rd rb off) := of_length (n := 2) rfl rfl rfl
theorem tStrbImm (rd : BitVec 3) (rb : BitVec 3) (off : BitVec 5) : Statement (.tStrbImm rd rb off) := of_length (n := 2) rfl rfl rfl
theorem tLdrbImm (rd : BitVec 3) (rb : BitVec 3) (off : BitVec 5) : Statement (.tLdrbImm rd rb off) := of_length (n := 2) rfl rfl rfl
theorem tStrhImm (rd : BitVec 3) (rb : BitVec 3) (off : BitVec 5) : Statement (.tStrhImm rd rb off) := of_length (n := 2) rfl rfl rfl
theorem tLdrhImm (rd : BitVec 3) (rb : BitVec 3) (off : BitVec 5) : Statement (.tLdrhImm rd rb off) := of_length (n := 2) rfl rfl rfl
theorem tStrSp (rd : BitVec 3) (imm : BitVec 8) : Statement (.tStrSp rd imm) := of_length (n := 2) rfl rfl rfl
theorem tLdrSp (rd : BitVec 3) (imm : BitVec 8) : Statement (.tLdrSp rd imm) := of_length (n := 2) rfl rfl rfl
theorem tAddPc (rd : BitVec 3) (imm : BitVec 8) : Statement (.tAddPc rd imm) := of_length (n := 2) rfl rfl rfl
theorem tAddSp (rd : BitVec 3) (imm : BitVec 8) : Statement (.tAddSp rd imm) := of_length (n := 2) rfl rfl rfl
theorem tAddSpImm (imm : BitVec 7) : Statement (.tAddSpImm imm) := of_length (n := 2) rfl rfl rfl
theorem tSubSpImm (imm : BitVec 7) : Statement (.tSubSpImm imm) := of_length (n := 2) rfl rfl rfl
theorem tPush (r : BitVec 1) (list : BitVec 8) : Statement (.tPush r list) := of_length (n := 2) rfl rfl rfl
theorem tPop (r : BitVec 1) (list : BitVec 8) : Statement (.tPop r list) := of_length (n := 2) rfl rfl rfl
theorem tStmia (rb : BitVec 3) (list : BitVec 8) : Statement (.tStmia rb list) := of_length (n := 2) rfl rfl rfl
theorem tLdmia (rb : BitVec 3) (list : BitVec 8) : Statement (.tLdmia rb list) := of_length (n := 2) rfl rfl rfl
theorem tBeq (off : BitVec 8) : Statement (.tBeq off) := of_length (n := 2) rfl rfl rfl
theorem tBne (off : BitVec 8) : Statement (.tBne off) := of_length (n := 2) rfl rfl rfl
theorem tBcs (off : BitVec 8) : Statement (.tBcs off) := of_length (n := 2) rfl rfl rfl
theorem tBcc (off : BitVec 8) : Statement (.tBcc off) := of_length (n := 2) rfl rfl rfl
theorem tBmi (off : BitVec 8) : Statement (.tBmi off) := of_length (n := 2) rfl rfl rfl
theorem tBpl (off : BitVec 8) : Statement (.tBpl off) := of_length (n := 2) rfl rfl rfl
theorem tBvs (off : BitVec 8) : Statement (.tBvs off) := of_length (n := 2) rfl rfl rfl
theorem tBvc (off : BitVec 8) : Statement (.tBvc off) := of_length (n := 2) rfl rfl rfl
theorem tBhi (off : BitVec 8) : Statement (.tBhi off) := of_length (n := 2) rfl rfl rfl
theorem tBls (off : BitVec 8) : Statement (.tBls off) := of_length (n := 2) rfl rfl rfl
theorem tBge (off : BitVec 8) : Statement (.tBge off) := of_length (n := 2) rfl rfl rfl
theorem tBlt (off : BitVec 8) : Statement (.tBlt off) := of_length (n := 2) rfl rfl rfl
theorem tBgt (off : BitVec 8) : Statement (.tBgt off) := of_length (n := 2) rfl rfl rfl
theorem tBle (off : BitVec 8) : Statement (.tBle off) := of_length (n := 2) rfl rfl rfl
theorem tSwi (imm : BitVec 8) : Statement (.tSwi imm) := of_length (n := 2) rfl rfl rfl
theorem tB (off : BitVec 11) : Statement (.tB off) := of_length (n := 2) rfl rfl rfl
theorem tBlHi (off : BitVec 11) : Statement (.tBlHi off) := of_length (n := 2) rfl rfl rfl
theorem tBlLo (off : BitVec 11) : Statement (.tBlLo off) := of_length (n := 2) rfl rfl rfl

end Sys2Proof.Laws.EncodedLength
end

