-- ==== Sys2Proof/Laws/Shapes.lean ====
section
/-! SUPPORT. The shapes of the 6507's instructions in the terms of the statements, and the operations of the model in the terms
of the rules. -/

namespace Sys2Proof.Machine

/-! ### Operations -/

theorem Cpu.setNZ_eq (v : Byte) (k : Cpu) : k.setNZ v = flagsNZ v k := by
  simp only [Cpu.setNZ, flagsNZ, BitVec.msb_eq_getLsbD_last, beq_eq_decide]

theorem Cpu.loadA_eq (v : Byte) (k : Cpu) : k.loadA v = intoA v k := by rw [Cpu.loadA, Cpu.setNZ_eq]; rfl
theorem Cpu.loadX_eq (v : Byte) (k : Cpu) : k.loadX v = intoX v k := by rw [Cpu.loadX, Cpu.setNZ_eq]; rfl
theorem Cpu.loadY_eq (v : Byte) (k : Cpu) : k.loadY v = intoY v k := by rw [Cpu.loadY, Cpu.setNZ_eq]; rfl
theorem Cpu.andA_eq (m : Byte) (k : Cpu) : k.andA m = intoA (k.a &&& m) k := Cpu.loadA_eq _ _
theorem Cpu.oraA_eq (m : Byte) (k : Cpu) : k.oraA m = intoA (k.a ||| m) k := Cpu.loadA_eq _ _
theorem Cpu.eorA_eq (m : Byte) (k : Cpu) : k.eorA m = intoA (k.a ^^^ m) k := Cpu.loadA_eq _ _
theorem Cpu.adc_eq (m : Byte) (k : Cpu) : k.adc m = adding m k := rfl
theorem Cpu.sbc_eq (m : Byte) (k : Cpu) : k.sbc m = subtracting m k := rfl
theorem Cpu.compare_eq (r m : Byte) (k : Cpu) : k.compare r m = comparing r m k := by rw [Cpu.compare, Cpu.setNZ_eq]; rfl
theorem Cpu.cmpA_eq (m : Byte) (k : Cpu) : k.cmpA m = comparing k.a m k := Cpu.compare_eq _ _ _
theorem Cpu.cmpX_eq (m : Byte) (k : Cpu) : k.cmpX m = comparing k.x m k := Cpu.compare_eq _ _ _
theorem Cpu.cmpY_eq (m : Byte) (k : Cpu) : k.cmpY m = comparing k.y m k := Cpu.compare_eq _ _ _
theorem Cpu.bitTest_eq (m : Byte) (k : Cpu) : k.bitTest m = testing m k := by
  simp only [Cpu.bitTest, testing, beq_eq_decide]
theorem Cpu.withStatus_eq (p : Byte) (k : Cpu) : k.withStatus p = flagsFrom p k := rfl
theorem Cpu.loadAX_eq (m : Byte) (k : Cpu) : k.loadAX m = laxing m k := by rw [Cpu.loadAX, Cpu.loadA_eq]; rfl
theorem Cpu.las_eq (m : Byte) (k : Cpu) : k.las m = lasing m k := by simp only [Cpu.las, Cpu.setNZ_eq]; rfl
theorem Cpu.anc_eq (m : Byte) (k : Cpu) : k.anc m = ancing m k := by
  rw [Cpu.anc, Cpu.loadA_eq, BitVec.msb_eq_getLsbD_last]; rfl
theorem Cpu.alr_eq (m : Byte) (k : Cpu) : k.alr m = alring m k := by rw [Cpu.alr, Cpu.loadA_eq]; rfl
theorem Cpu.sbx_eq (m : Byte) (k : Cpu) : k.sbx m = sbxing m k := by rw [Cpu.sbx, Cpu.compare_eq]; rfl

theorem aslOp_eq : aslOp = shiftLeft := rfl
theorem lsrOp_eq : lsrOp = shiftRight := rfl
theorem rolOp_eq : rolOp = rotateLeft := by
  funext v c; cases c <;> rfl
theorem rorOp_eq : rorOp = rotateRight := by
  funext v c; cases c <;> rfl
theorem incOp_eq : incOp = increment := rfl
theorem decOp_eq : decOp = decrement := rfl

theorem Cpu.arr_eq (m : Byte) (k : Cpu) : k.arr m = arring m k := by
  simp only [Cpu.arr, Cpu.loadA_eq, rorOp_eq]; rfl

/-! ### Shapes -/

theorem undoc_runs {s : State} (h : s.runsUndoc) (o : State → Except Stop State) : undoc o s = o s := by
  unfold State.runsUndoc at h
  simp only [undoc, h]

/-- An immediate form. -/
theorem readsAs_value {s : State} {i : Instr} {b1 : Byte} {opM op : Byte → Cpu → Cpu}
    (he : exec i s = run (immediate opM b1 s)) (ho : ∀ m k, opM m k = op m k) : ReadsAs s i (.value b1) op :=
  ⟨(b1, s), s.mapCpu (opM b1), rfl, he, by rw [State.mapCpu_cpu, ho], Quiet.mapCpu _ _⟩

/-- A form that reads memory. -/
theorem readsAs_memory {s : State} {i : Instr} {ea : Ea} {opM op : Byte → Cpu → Cpu} (hp : s.plainCart) (h : ea.Sound)
    (he : exec i s = run (readVia ea opM s)) (ho : ∀ m k, opM m k = op m k) (hr : ∀ m, Cpu.Regular (op m)) :
    ReadsAs s i (.memory ea) op := by
  obtain ⟨x, hx, hxr⟩ := Source.fetch_memory h hp
  refine ⟨x, x.2.mapCpu (opM x.1), hx, by rw [he, readVia_eq ea opM hx]; rfl, ?_, hxr.quiet.trans (Quiet.mapCpu _ _)⟩
  rw [State.mapCpu_cpu, ho]
  exact (hr _).congr hxr.arch

/-- A one-byte instruction on registers. -/
theorem registersOnly_implied {s : State} {i : Instr} {opM op : Cpu → Cpu} (hp : s.plainCart)
    (he : exec i s = run (implied opM s)) (ho : ∀ k, opM k = op k) (hr : Cpu.Regular op) :
    RegistersOnly s i (op s.cpu) := by
  obtain ⟨t, ht, htr, -⟩ := implied_ok hp opM
  refine ⟨t.mapCpu opM, by rw [he, ht]; rfl, ?_, htr.quiet.trans (Quiet.mapCpu _ _)⟩
  rw [State.mapCpu_cpu, ho]
  exact hr.congr htr.arch

theorem Elapsed.of_eq {s t u : State} (h : Elapsed s t) (hr : u.riot.steps = t.riot.steps) (ht : u.tia = t.tia) :
    Elapsed s u := ⟨by rw [hr]; exact h.steps, by rw [hr, ht]; exact h.ticks⟩

/-- A store. -/
theorem storesAs_of {s : State} {i : Instr} {ea : Ea} {valM val : Cpu → Byte} (hp : s.plainCart) (hr : s.room 1)
    (hw : s.riot.ram.wf = true) (h : ea.Sound) (he : exec i s = run (storeVia ea valM s)) (ho : ∀ k, valM k = val k)
    (hv : ∀ k, val k.arch = val k) : StoresAs s i ea (val s.cpu) := by
  obtain ⟨e, t, hea, hst, her, hs⟩ := storeVia_ok h hp hr valM
  have hval : valM e.2.cpu = val s.cpu := by rw [ho, ← hv, her.arch, hv]
  rw [hval] at hs
  refine ⟨e, t, hea, by rw [he, hst]; rfl, hs.arch.trans her.arch, her.quiet, her.quiet.outside.trans hs.outside,
    fun j => ?_, fun ht => ?_, fun ht => her.quiet.elapsed.trans her.quiet.outside.params (hs.elapsed ht)⟩
  · rw [hs.ram (her.quiet.wf hw)]
    simp only [storeRam, her.quiet.read]
  · rw [← her.quiet.outside.params]
    exact hs.tia ht

/-- A second store to an address replaces the first. -/
theorem storeRam_same (a : Addr) (v w : Byte) (ram : Nat → Byte) (j : Nat) :
    storeRam a w (storeRam a v ram) j = storeRam a w ram j := by
  unfold storeRam
  split <;> rfl

/-- A read-modify-write. -/
theorem modifiesAs_of {s : State} {i : Instr} {ea : Ea} {fM f : Byte → Bool → Byte × Bool}
    {postM post : Byte → Cpu → Cpu} (hp : s.plainCart) (hr : s.room 2) (hw : s.riot.ram.wf = true) (h : ea.Sound)
    (he : exec i s = run (rmwVia ea fM postM s)) (hf : fM = f) (ho : ∀ m k, postM m k = post m k)
    (hreg : ∀ m, Cpu.Regular (post m)) : ModifiesAs s i ea f post := by
  subst hf
  obtain ⟨e, x, t, u, hea, hx, her, hxr, hts, hus, hrmw⟩ := rmwVia_ok h hp hr fM postM
  have hsx : Reads s x.2 := her.trans hxr
  have hc : x.2.cpu.c = s.cpu.c := by
    have : x.2.cpu.arch.c = s.cpu.arch.c := by rw [hsx.arch]
    exact this
  rw [hc] at hus hrmw
  have hu : u.cpu.arch = s.cpu.arch := (hus.arch.trans hts.arch).trans hsx.arch
  refine ⟨e, x, _, hea, hx, by rw [he, hrmw]; rfl, ?_, hsx.quiet, ?_, fun j => ?_, fun ht => ⟨t.tia, ?_, ?_⟩, fun ht => ?_⟩
  · rw [State.mapCpu_cpu, ho]
    refine (hreg _).congr ?_
    have hca : ∀ (k : Cpu) (b : Bool), ({ k with c := b } : Cpu).arch = { k.arch with c := b } := fun _ _ => rfl
    rw [hca, hu, ← hca]
  · exact (hsx.quiet.outside.trans (hts.outside.trans hus.outside)).trans (Quiet.mapCpu u _).outside
  · rw [State.mapCpu_riot, hus.ram (hts.wf (hsx.quiet.wf hw))]
    have : (fun j => t.riot.ram.read j) = storeRam e.1 x.1 (fun j => x.2.riot.ram.read j) :=
      funext fun j => hts.ram (hsx.quiet.wf hw) j
    rw [this, storeRam_same]
    simp only [storeRam, hsx.quiet.read]
  · rw [← hsx.quiet.outside.params]; exact hts.tia ht
  · rw [← hsx.quiet.outside.params, ← hts.outside.params]
    exact hus.tia ht
  · refine Elapsed.of_eq (t := u) ?_ rfl rfl
    exact hsx.quiet.elapsed.trans hsx.quiet.outside.params
      ((hts.elapsed ht).trans hts.outside.params (hus.elapsed ht))

/-! ### Pushes -/

/-- Nothing pushed yet. -/
theorem Pushed.of_quiet {s t : State} (h : Quiet s t) : Pushed s t [] :=
  ⟨h.outside, fun j => h.read j, fun _ => h.elapsed⟩

/-- Reads between and after pushes. -/
theorem Pushed.reads {s t u : State} {ws : List (Addr × Byte)} (h : Pushed s t ws) (q : Quiet t u) : Pushed s u ws :=
  ⟨h.outside.trans q.outside, fun j => (q.read j).trans (h.ram j),
   fun k => (h.elapsed k).trans h.outside.params q.elapsed⟩

/-- A state from which the next push answers. -/
structure CanPush (n : Nat) (s : State) : Prop where
  plain : s.plainCart
  room : s.room n
  wf : s.riot.ram.wf = true

theorem CanPush.reads {n : Nat} {s t : State} (h : CanPush n s) (q : Quiet s t) : CanPush n t :=
  ⟨q.plainCart h.plain, q.room h.room, q.wf h.wf⟩

theorem foldl_snoc_storeRam (ws : List (Addr × Byte)) (a : Addr) (v : Byte) (ram : Nat → Byte) :
    (ws ++ [(a, v)]).foldl (fun ram w => storeRam w.1 w.2 ram) ram =
      storeRam a v (ws.foldl (fun ram w => storeRam w.1 w.2 ram) ram) := by
  rw [List.foldl_append]; rfl

/-- One more push. -/
theorem Pushed.push {s t : State} {ws : List (Addr × Byte)} {n : Nat} (h : Pushed s t ws) (c : CanPush (n + 1) t)
    (v : Byte) : ∃ u, push v t = .ok u ∧ Pushed s u (ws ++ [(stackAddr t.cpu.sp, v)]) ∧ CanPush n u ∧
      u.cpu = { t.cpu with sp := t.cpu.sp - 1, t := t.cpu.t + 1 } := by
  have hr := c.room
  obtain ⟨u, hu, st⟩ := push_ok c.plain (by unfold State.room at *; omega) v
  have o : Outside t (u.mapCpu Cpu.decSP) := st.outside.trans (Quiet.mapCpu u Cpu.decSP).outside
  refine ⟨u.mapCpu Cpu.decSP, hu, ⟨h.outside.trans o, fun j => ?_, fun k => ?_⟩,
    ⟨o.plainCart c.plain, st.room hr, st.wf c.wf⟩, ?_⟩
  · rw [foldl_snoc_storeRam, State.mapCpu_riot, st.ram c.wf]
    congr 1
    exact funext h.ram
  · have h1 : Elapsed s t := h.elapsed fun w hw => k w (List.mem_append_left _ hw)
    have h2 : Elapsed t u := st.elapsed (k (stackAddr t.cpu.sp, v) (List.mem_append_right _ (List.mem_singleton_self _)))
    have h3 := h1.trans h.outside.params h2
    exact ⟨h3.steps, h3.ticks⟩
  · rw [State.mapCpu_cpu, st.cpu]; rfl

end Sys2Proof.Machine
end

