-- ==== Sys2Proof/Laws/Tick.lean ====
section
/-! SUPPORT. One TIA tick on which no event fires: what each stage leaves alone, and what the countdown does. -/

namespace Sys2Proof.Machine

/-- No event fires on the next tick. -/
def Tia.Waiting (t : Tia) : Prop := ∀ g, ∀ e ∈ t.eventsOf g, 1 < e.remaining

/-- A group with no event due only counts down. -/
theorem Tia.tickGroup_waiting {t : Tia} {g : Group} (h : ∀ e ∈ t.eventsOf g, 1 < e.remaining) :
    t.tickGroup g = t.setEvents g (countDown (t.eventsOf g)) := by
  unfold Tia.tickGroup
  have : (t.eventsOf g).filter (fun e => decide (e.remaining ≤ 1)) = [] := by
    rw [List.filter_eq_nil_iff]; intro e he; have := h e he; simp; omega
  dsimp only
  rw [this]; rfl

/-- With no event due, `tickAll()` only counts down. -/
theorem Tia.tickAll_waiting {t : Tia} (h : Tia.Waiting t) :
    t.tickAll = groupOrder.foldl (fun t g => t.setEvents g (countDown (t.eventsOf g))) t := by
  unfold Tia.tickAll
  have : ∀ (gs : List Group) (u : Tia), gs.Nodup → (∀ g ∈ gs, u.eventsOf g = t.eventsOf g) →
      gs.foldl Tia.tickGroup u = gs.foldl (fun t g => t.setEvents g (countDown (t.eventsOf g))) u := by
    intro gs
    induction gs with
    | nil => intros; rfl
    | cons g gs ih =>
      intro u hn hu
      simp only [List.foldl_cons]
      rw [Tia.tickGroup_waiting (by rw [hu g (by simp)]; exact h g)]
      refine ih _ (List.nodup_cons.1 hn).2 fun k hk => ?_
      rw [Tia.eventsOf_setEvents, if_neg, hu k (by simp [hk])]
      rintro rfl; exact (List.nodup_cons.1 hn).1 hk
  exact this _ _ (by decide) fun _ _ => rfl

/-- A tick up to `tickAll()`. -/
def Tia.drawn (p : Params) (t : Tia) : Tia := ((t.clock.decodeLine.rippleStage p).spriteStage p).emit

/-- A tick on which no event fires. -/
theorem Tia.tick_waiting {t : Tia} (p : Params) (h : Tia.Waiting t) :
    t.tick p = groupOrder.foldl (fun t g => t.setEvents g (countDown (t.eventsOf g))) (Tia.drawn p t) := by
  have : Tia.Waiting (Tia.drawn p t) := by
    intro g; rw [show (Tia.drawn p t).eventsOf g = t.eventsOf g from Tia.sameEvents_tick_stages p t g]; exact h g
  exact Tia.tickAll_waiting this

/-- Two TIA states that agree outside the sprites, the ripple and the signal. -/
structure SameLine (t u : Tia) : Prop where
  ctr : u.ctr = t.ctr
  hblank : u.hblank = t.hblank
  hsyncSig : u.hsyncSig = t.hsyncSig
  vsync : u.vsync = t.vsync
  vblank : u.vblank = t.vblank
  hmoveLatch : u.hmoveLatch = t.hmoveLatch
  wsync : u.wsync = t.wsync
  scanline : u.scanline = t.scanline
  cx : u.cx = t.cx
  pf : u.pf = t.pf

theorem SameLine.trans {t u v : Tia} (h : SameLine t u) (k : SameLine u v) : SameLine t v :=
  ⟨k.ctr.trans h.ctr, k.hblank.trans h.hblank, k.hsyncSig.trans h.hsyncSig, k.vsync.trans h.vsync, k.vblank.trans h.vblank,
   k.hmoveLatch.trans h.hmoveLatch, k.wsync.trans h.wsync, k.scanline.trans h.scanline, k.cx.trans h.cx, k.pf.trans h.pf⟩

/-- A replaced sprite leaves the line alone. -/
theorem Tia.sameLine_setSprite (t : Tia) (s) (sp) : SameLine t (t.setSprite s sp) := by
  cases s <;> exact ⟨rfl, rfl, rfl, rfl, rfl, rfl, rfl, rfl, rfl, rfl⟩

theorem Tia.sameLine_tickSprite (p : Params) (t : Tia) (s) : SameLine t (t.tickSprite p s) := by
  unfold Tia.tickSprite
  dsimp only
  split
  · refine (Tia.sameLine_setSprite t s ((t.sprite s).tick (t.shape p s))).trans ?_
    cases s <;> simp only [Tia.lockMissile] <;> (try split) <;> first | exact Tia.sameLine_setSprite _ _ _ | exact ⟨rfl, rfl, rfl, rfl, rfl, rfl, rfl, rfl, rfl, rfl⟩
  · exact Tia.sameLine_setSprite _ _ _

theorem Tia.sameLine_foldl {α} (f : Tia → α → Tia) (l : List α) (h : ∀ t a, SameLine t (f t a)) (t : Tia) : SameLine t (l.foldl f t) := by
  induction l generalizing t with
  | nil => exact ⟨rfl, rfl, rfl, rfl, rfl, rfl, rfl, rfl, rfl, rfl⟩
  | cons a l ih => exact (h t a).trans (ih _)

theorem Tia.sameLine_spriteStage (p : Params) (t : Tia) : SameLine t (t.spriteStage p) := by
  unfold Tia.spriteStage
  split
  · exact ⟨rfl, rfl, rfl, rfl, rfl, rfl, rfl, rfl, rfl, rfl⟩
  · exact Tia.sameLine_foldl _ _ (fun t s => Tia.sameLine_tickSprite p t s) t

theorem Tia.sameLine_rippleSprite (p : Params) (ct) (t : Tia) (s) : SameLine t (t.rippleSprite p ct s) := by
  unfold Tia.rippleSprite
  dsimp only
  split
  · exact ((Tia.sameLine_setSprite _ _ _).trans (Tia.sameLine_tickSprite _ _ _)).trans (Tia.sameLine_setSprite _ _ _)
  · exact Tia.sameLine_setSprite _ _ _

theorem Tia.sameLine_rippleStage (p : Params) (t : Tia) : SameLine t (t.rippleStage p) := by
  unfold Tia.rippleStage
  split
  · rename_i ct _ _
    have := Tia.sameLine_foldl (Tia.rippleSprite p ct) spriteOrder (Tia.sameLine_rippleSprite p ct) t
    exact ⟨this.ctr, this.hblank, this.hsyncSig, this.vsync, this.vblank, this.hmoveLatch, this.wsync, this.scanline, this.cx, this.pf⟩
  · exact ⟨rfl, rfl, rfl, rfl, rfl, rfl, rfl, rfl, rfl, rfl⟩

theorem Tia.sameLine_stages (p : Params) (t : Tia) : SameLine t.clock.decodeLine ((t.clock.decodeLine.rippleStage p).spriteStage p) :=
  (Tia.sameLine_rippleStage p _).trans (Tia.sameLine_spriteStage p _)

/-- Two TIA states that agree but for their live events. -/
structure SameButEvents (t u : Tia) : Prop where
  ctr : u.ctr = t.ctr
  hblank : u.hblank = t.hblank
  hsyncSig : u.hsyncSig = t.hsyncSig
  vsync : u.vsync = t.vsync
  vblank : u.vblank = t.vblank
  hmoveLatch : u.hmoveLatch = t.hmoveLatch
  hmoveCt : u.hmoveCt = t.hmoveCt
  wsync : u.wsync = t.wsync
  scanline : u.scanline = t.scanline
  cx : u.cx = t.cx
  signal : u.signal = t.signal
  m0r : u.m0.resetToPlayer = t.m0.resetToPlayer
  sprite : ∀ s, ({ u.sprite s with events := [] } : Sprite) = { t.sprite s with events := [] }
  pix : u.p0.pixel = t.p0.pixel ∧ u.p1.pixel = t.p1.pixel ∧ u.m0.pixel = t.m0.pixel ∧ u.m1.pixel = t.m1.pixel ∧ u.bl.pixel = t.bl.pixel ∧ u.pf.pixel = t.pf.pixel

/-- With no event due, a tick is its first five stages and the countdown. -/
theorem Tia.tick_sameButEvents {t : Tia} (p : Params) (h : Tia.Waiting t) : SameButEvents (Tia.drawn p t) (t.tick p) := by
  rw [Tia.tick_waiting p h]
  generalize Tia.drawn p t = w
  have one : ∀ (g : Group) (es) (w : Tia), SameButEvents w (w.setEvents g es) := by
    intro g es w
    rcases g with _ | s | _
    · exact ⟨rfl, rfl, rfl, rfl, rfl, rfl, rfl, rfl, rfl, rfl, rfl, rfl, fun s => by cases s <;> rfl, rfl, rfl, rfl, rfl, rfl, rfl⟩
    · cases s <;> exact ⟨rfl, rfl, rfl, rfl, rfl, rfl, rfl, rfl, rfl, rfl, rfl, rfl, fun s => by cases s <;> rfl, rfl, rfl, rfl, rfl, rfl, rfl⟩
    · exact ⟨rfl, rfl, rfl, rfl, rfl, rfl, rfl, rfl, rfl, rfl, rfl, rfl, fun s => by cases s <;> rfl, rfl, rfl, rfl, rfl, rfl, rfl⟩
  have tr : ∀ {a b c : Tia}, SameButEvents a b → SameButEvents b c → SameButEvents a c := by
    intro a b c h k
    exact ⟨k.ctr.trans h.ctr, k.hblank.trans h.hblank, k.hsyncSig.trans h.hsyncSig, k.vsync.trans h.vsync, k.vblank.trans h.vblank,
      k.hmoveLatch.trans h.hmoveLatch, k.hmoveCt.trans h.hmoveCt, k.wsync.trans h.wsync, k.scanline.trans h.scanline, k.cx.trans h.cx, k.signal.trans h.signal,
      k.m0r.trans h.m0r, fun s => (k.sprite s).trans (h.sprite s), k.pix.1.trans h.pix.1, k.pix.2.1.trans h.pix.2.1, k.pix.2.2.1.trans h.pix.2.2.1,
      k.pix.2.2.2.1.trans h.pix.2.2.2.1, k.pix.2.2.2.2.1.trans h.pix.2.2.2.2.1, k.pix.2.2.2.2.2.trans h.pix.2.2.2.2.2⟩
  have all : ∀ (gs : List Group) (w : Tia), SameButEvents w (gs.foldl (fun t g => t.setEvents g (countDown (t.eventsOf g))) w) := by
    intro gs
    induction gs with
    | nil => intro w; exact ⟨rfl, rfl, rfl, rfl, rfl, rfl, rfl, rfl, rfl, rfl, rfl, rfl, fun s => rfl, rfl, rfl, rfl, rfl, rfl, rfl⟩
    | cons g gs ih => intro w; exact tr (one _ _ w) (ih _)
  exact all _ w

/-- `hclk` advances modulo 228 (R404). -/
theorem Tia.hclk_clock (t : Tia) (h : t.ctr.count < 57) : t.clock.hclk = (t.hclk + 1) % 228 := by
  have : ∀ n < 57, ∀ k : PhaseClock, (Counter.tick 57 ⟨n, k⟩).position = ((⟨n, k⟩ : Counter).position + 1) % 228 := by
    intro n hn k
    cases k <;> simp only [Counter.tick, PhaseClock.tick, Counter.position, PhaseClock.idx] <;> omega
  exact this _ h _

/-- The sprite read back. -/
theorem Tia.sprite_setSprite (t : Tia) (s s' : SpriteId) (sp) : (t.setSprite s sp).sprite s' = if s' = s then sp else t.sprite s' := by
  cases s <;> cases s' <;> simp [Tia.setSprite, Tia.sprite]

theorem Sprite.tick_motion (sh) (sp : Sprite) : (sp.tick sh).hmovedPixel = sp.hmovedPixel ∧ (sp.tick sh).moreHmove = sp.moreHmove ∧ (sp.tick sh).hm = sp.hm := by
  unfold Sprite.tick Sprite.advanceCounter Sprite.advancePhase
  dsimp only
  split <;> (try split) <;> (try split) <;> (try split) <;> exact ⟨rfl, rfl, rfl⟩

/-- A sprite's motion fields are alike. -/
def SameMotion (t u : Tia) (s : SpriteId) : Prop := (u.sprite s).hmovedPixel = (t.sprite s).hmovedPixel ∧ (u.sprite s).moreHmove = (t.sprite s).moreHmove ∧ (u.sprite s).hm = (t.sprite s).hm

theorem Tia.tickSprite_sameMotion (p : Params) (s s' : SpriteId) (t : Tia) : SameMotion t (t.tickSprite p s) s' := by
  have h : SameMotion t (t.setSprite s ((t.sprite s).tick (t.shape p s))) s' := by
    unfold SameMotion; rw [Tia.sprite_setSprite]; split
    · next h => subst h; exact Sprite.tick_motion _ _
    · exact ⟨rfl, rfl, rfl⟩
  unfold Tia.tickSprite
  dsimp only
  split
  · unfold SameMotion at *
    generalize t.setSprite s ((t.sprite s).tick (t.shape p s)) = w at *
    cases s <;> simp only [Tia.lockMissile] <;> (try split) <;> (try exact h)
    all_goals
      rw [Tia.sprite_setSprite]; split
      · next h' => subst h'; exact h
      · exact h
  · exact h

theorem Tia.foldl_tickSprite_sameMotion (p : Params) (s' : SpriteId) (l : List SpriteId) (t : Tia) : SameMotion t (l.foldl (fun t s => t.tickSprite p s) t) s' := by
  induction l generalizing t with
  | nil => exact ⟨rfl, rfl, rfl⟩
  | cons a l ih =>
    have h1 := Tia.tickSprite_sameMotion p a s' t
    have h2 := ih (t.tickSprite p a)
    exact ⟨h2.1.trans h1.1, h2.2.1.trans h1.2.1, h2.2.2.trans h1.2.2⟩

theorem Tia.decodeLine_ctr (t : Tia) : t.decodeLine.ctr = t.ctr := by
  unfold Tia.decodeLine; split_ifs <;> rfl

/-- In the blanks there is no colour (R442). -/
theorem Tia.colour_blank (t : Tia) (h : t.hblank = true ∨ t.vblank = true) : t.colour = none := by
  unfold Tia.colour; rw [if_pos]; rcases h with h | h <;> simp [h]

end Sys2Proof.Machine
end

