-- ==== Sys2Proof/Tests/Slice0.lean ====
section
/-! SUPPORT. Tests: the well-formedness checks, the decoding of every constructor, one step of most instructions with results
from the spec's own vectors (95_test_vectors.md), the devices, and for each statement a state and operands that meet its
hypotheses. -/

namespace Sys2Proof.Tests

open Sys2Proof Sys2Proof.Machine

/-! ### Well-formedness: each check refuses an ill-formed term -/

theorem test_push_nothing : (Instr.tPush 0 0x00).wellFormed = false := rfl
theorem test_push_lr_alone : (Instr.tPush 1 0x00).wellFormed = true := rfl
theorem test_pop_nothing : (Instr.tPop 0 0x00).wellFormed = false := rfl
theorem test_stmia_nothing : (Instr.tStmia 1 0x00).wellFormed = false := rfl
theorem test_stmia_base_not_lowest : (Instr.tStmia 1 0x03).wellFormed = false := rfl
theorem test_stmia_base_lowest : (Instr.tStmia 1 0x06).wellFormed = true := rfl
theorem test_ldmia_nothing : (Instr.tLdmia 1 0x00).wellFormed = false := rfl

/-! ### Decoding: a word of every constructor, from the encodings of R131, R147, R531 and R532 -/

/-- Opcodes 00 to 0F, operand bytes 12 and 34 (R131, R147). -/
theorem test_decode_row_0 :
    [decode6507 0x00 0x12 0x34, decode6507 0x01 0x12 0x34, decode6507 0x02 0x12 0x34, decode6507 0x03 0x12 0x34,
      decode6507 0x04 0x12 0x34, decode6507 0x05 0x12 0x34, decode6507 0x06 0x12 0x34, decode6507 0x07 0x12 0x34,
      decode6507 0x08 0x12 0x34, decode6507 0x09 0x12 0x34, decode6507 0x0A 0x12 0x34, decode6507 0x0B 0x12 0x34,
      decode6507 0x0C 0x12 0x34, decode6507 0x0D 0x12 0x34, decode6507 0x0E 0x12 0x34, decode6507 0x0F 0x12 0x34] =
      [.brk, .oraIzx 0x12, .jam02, .sloIzx 0x12, .nopZp04 0x12, .oraZp 0x12, .aslZp 0x12, .sloZp 0x12, .php,
        .oraImm 0x12, .aslAcc, .ancImm0B 0x12, .nopAbs 0x12 0x34, .oraAbs 0x12 0x34, .aslAbs 0x12 0x34,
        .sloAbs 0x12 0x34] := rfl

/-- Opcodes 10 to 1F, operand bytes 12 and 34 (R131, R147). -/
theorem test_decode_row_1 :
    [decode6507 0x10 0x12 0x34, decode6507 0x11 0x12 0x34, decode6507 0x12 0x12 0x34, decode6507 0x13 0x12 0x34,
      decode6507 0x14 0x12 0x34, decode6507 0x15 0x12 0x34, decode6507 0x16 0x12 0x34, decode6507 0x17 0x12 0x34,
      decode6507 0x18 0x12 0x34, decode6507 0x19 0x12 0x34, decode6507 0x1A 0x12 0x34, decode6507 0x1B 0x12 0x34,
      decode6507 0x1C 0x12 0x34, decode6507 0x1D 0x12 0x34, decode6507 0x1E 0x12 0x34, decode6507 0x1F 0x12 0x34] =
      [.bpl 0x12, .oraIzy 0x12, .jam12, .sloIzy 0x12, .nopZpx14 0x12, .oraZpx 0x12, .aslZpx 0x12, .sloZpx 0x12, .clc,
        .oraAby 0x12 0x34, .nop1A, .sloAby 0x12 0x34, .nopAbx1C 0x12 0x34, .oraAbx 0x12 0x34, .aslAbx 0x12 0x34,
        .sloAbx 0x12 0x34] := rfl

/-- Opcodes 20 to 2F, operand bytes 12 and 34 (R131, R147). -/
theorem test_decode_row_2 :
    [decode6507 0x20 0x12 0x34, decode6507 0x21 0x12 0x34, decode6507 0x22 0x12 0x34, decode6507 0x23 0x12 0x34,
      decode6507 0x24 0x12 0x34, decode6507 0x25 0x12 0x34, decode6507 0x26 0x12 0x34, decode6507 0x27 0x12 0x34,
      decode6507 0x28 0x12 0x34, decode6507 0x29 0x12 0x34, decode6507 0x2A 0x12 0x34, decode6507 0x2B 0x12 0x34,
      decode6507 0x2C 0x12 0x34, decode6507 0x2D 0x12 0x34, decode6507 0x2E 0x12 0x34, decode6507 0x2F 0x12 0x34] =
      [.jsrAbs 0x12 0x34, .andIzx 0x12, .jam22, .rlaIzx 0x12, .bitZp 0x12, .andZp 0x12, .rolZp 0x12, .rlaZp 0x12,
        .plp, .andImm 0x12, .rolAcc, .ancImm2B 0x12, .bitAbs 0x12 0x34, .andAbs 0x12 0x34, .rolAbs 0x12 0x34,
        .rlaAbs 0x12 0x34] := rfl

/-- Opcodes 30 to 3F, operand bytes 12 and 34 (R131, R147). -/
theorem test_decode_row_3 :
    [decode6507 0x30 0x12 0x34, decode6507 0x31 0x12 0x34, decode6507 0x32 0x12 0x34, decode6507 0x33 0x12 0x34,
      decode6507 0x34 0x12 0x34, decode6507 0x35 0x12 0x34, decode6507 0x36 0x12 0x34, decode6507 0x37 0x12 0x34,
      decode6507 0x38 0x12 0x34, decode6507 0x39 0x12 0x34, decode6507 0x3A 0x12 0x34, decode6507 0x3B 0x12 0x34,
      decode6507 0x3C 0x12 0x34, decode6507 0x3D 0x12 0x34, decode6507 0x3E 0x12 0x34, decode6507 0x3F 0x12 0x34] =
      [.bmi 0x12, .andIzy 0x12, .jam32, .rlaIzy 0x12, .nopZpx34 0x12, .andZpx 0x12, .rolZpx 0x12, .rlaZpx 0x12, .sec,
        .andAby 0x12 0x34, .nop3A, .rlaAby 0x12 0x34, .nopAbx3C 0x12 0x34, .andAbx 0x12 0x34, .rolAbx 0x12 0x34,
        .rlaAbx 0x12 0x34] := rfl

/-- Opcodes 40 to 4F, operand bytes 12 and 34 (R131, R147). -/
theorem test_decode_row_4 :
    [decode6507 0x40 0x12 0x34, decode6507 0x41 0x12 0x34, decode6507 0x42 0x12 0x34, decode6507 0x43 0x12 0x34,
      decode6507 0x44 0x12 0x34, decode6507 0x45 0x12 0x34, decode6507 0x46 0x12 0x34, decode6507 0x47 0x12 0x34,
      decode6507 0x48 0x12 0x34, decode6507 0x49 0x12 0x34, decode6507 0x4A 0x12 0x34, decode6507 0x4B 0x12 0x34,
      decode6507 0x4C 0x12 0x34, decode6507 0x4D 0x12 0x34, decode6507 0x4E 0x12 0x34, decode6507 0x4F 0x12 0x34] =
      [.rti, .eorIzx 0x12, .jam42, .sreIzx 0x12, .nopZp44 0x12, .eorZp 0x12, .lsrZp 0x12, .sreZp 0x12, .pha,
        .eorImm 0x12, .lsrAcc, .alrImm 0x12, .jmpAbs 0x12 0x34, .eorAbs 0x12 0x34, .lsrAbs 0x12 0x34,
        .sreAbs 0x12 0x34] := rfl

/-- Opcodes 50 to 5F, operand bytes 12 and 34 (R131, R147). -/
theorem test_decode_row_5 :
    [decode6507 0x50 0x12 0x34, decode6507 0x51 0x12 0x34, decode6507 0x52 0x12 0x34, decode6507 0x53 0x12 0x34,
      decode6507 0x54 0x12 0x34, decode6507 0x55 0x12 0x34, decode6507 0x56 0x12 0x34, decode6507 0x57 0x12 0x34,
      decode6507 0x58 0x12 0x34, decode6507 0x59 0x12 0x34, decode6507 0x5A 0x12 0x34, decode6507 0x5B 0x12 0x34,
      decode6507 0x5C 0x12 0x34, decode6507 0x5D 0x12 0x34, decode6507 0x5E 0x12 0x34, decode6507 0x5F 0x12 0x34] =
      [.bvc 0x12, .eorIzy 0x12, .jam52, .sreIzy 0x12, .nopZpx54 0x12, .eorZpx 0x12, .lsrZpx 0x12, .sreZpx 0x12, .cli,
        .eorAby 0x12 0x34, .nop5A, .sreAby 0x12 0x34, .nopAbx5C 0x12 0x34, .eorAbx 0x12 0x34, .lsrAbx 0x12 0x34,
        .sreAbx 0x12 0x34] := rfl

/-- Opcodes 60 to 6F, operand bytes 12 and 34 (R131, R147). -/
theorem test_decode_row_6 :
    [decode6507 0x60 0x12 0x34, decode6507 0x61 0x12 0x34, decode6507 0x62 0x12 0x34, decode6507 0x63 0x12 0x34,
      decode6507 0x64 0x12 0x34, decode6507 0x65 0x12 0x34, decode6507 0x66 0x12 0x34, decode6507 0x67 0x12 0x34,
      decode6507 0x68 0x12 0x34, decode6507 0x69 0x12 0x34, decode6507 0x6A 0x12 0x34, decode6507 0x6B 0x12 0x34,
      decode6507 0x6C 0x12 0x34, decode6507 0x6D 0x12 0x34, decode6507 0x6E 0x12 0x34, decode6507 0x6F 0x12 0x34] =
      [.rts, .adcIzx 0x12, .jam62, .rraIzx 0x12, .nopZp64 0x12, .adcZp 0x12, .rorZp 0x12, .rraZp 0x12, .pla,
        .adcImm 0x12, .rorAcc, .arrImm 0x12, .jmpInd 0x12 0x34, .adcAbs 0x12 0x34, .rorAbs 0x12 0x34,
        .rraAbs 0x12 0x34] := rfl

/-- Opcodes 70 to 7F, operand bytes 12 and 34 (R131, R147). -/
theorem test_decode_row_7 :
    [decode6507 0x70 0x12 0x34, decode6507 0x71 0x12 0x34, decode6507 0x72 0x12 0x34, decode6507 0x73 0x12 0x34,
      decode6507 0x74 0x12 0x34, decode6507 0x75 0x12 0x34, decode6507 0x76 0x12 0x34, decode6507 0x77 0x12 0x34,
      decode6507 0x78 0x12 0x34, decode6507 0x79 0x12 0x34, decode6507 0x7A 0x12 0x34, decode6507 0x7B 0x12 0x34,
      decode6507 0x7C 0x12 0x34, decode6507 0x7D 0x12 0x34, decode6507 0x7E 0x12 0x34, decode6507 0x7F 0x12 0x34] =
      [.bvs 0x12, .adcIzy 0x12, .jam72, .rraIzy 0x12, .nopZpx74 0x12, .adcZpx 0x12, .rorZpx 0x12, .rraZpx 0x12, .sei,
        .adcAby 0x12 0x34, .nop7A, .rraAby 0x12 0x34, .nopAbx7C 0x12 0x34, .adcAbx 0x12 0x34, .rorAbx 0x12 0x34,
        .rraAbx 0x12 0x34] := rfl

/-- Opcodes 80 to 8F, operand bytes 12 and 34 (R131, R147). -/
theorem test_decode_row_8 :
    [decode6507 0x80 0x12 0x34, decode6507 0x81 0x12 0x34, decode6507 0x82 0x12 0x34, decode6507 0x83 0x12 0x34,
      decode6507 0x84 0x12 0x34, decode6507 0x85 0x12 0x34, decode6507 0x86 0x12 0x34, decode6507 0x87 0x12 0x34,
      decode6507 0x88 0x12 0x34, decode6507 0x89 0x12 0x34, decode6507 0x8A 0x12 0x34, decode6507 0x8B 0x12 0x34,
      decode6507 0x8C 0x12 0x34, decode6507 0x8D 0x12 0x34, decode6507 0x8E 0x12 0x34, decode6507 0x8F 0x12 0x34] =
      [.nopImm80 0x12, .staIzx 0x12, .nopImm82 0x12, .saxIzx 0x12, .styZp 0x12, .staZp 0x12, .stxZp 0x12,
        .saxZp 0x12, .dey, .nopImm89 0x12, .txa, .aneImm 0x12, .styAbs 0x12 0x34, .staAbs 0x12 0x34,
        .stxAbs 0x12 0x34, .saxAbs 0x12 0x34] := rfl

/-- Opcodes 90 to 9F, operand bytes 12 and 34 (R131, R147). -/
theorem test_decode_row_9 :
    [decode6507 0x90 0x12 0x34, decode6507 0x91 0x12 0x34, decode6507 0x92 0x12 0x34, decode6507 0x93 0x12 0x34,
      decode6507 0x94 0x12 0x34, decode6507 0x95 0x12 0x34, decode6507 0x96 0x12 0x34, decode6507 0x97 0x12 0x34,
      decode6507 0x98 0x12 0x34, decode6507 0x99 0x12 0x34, decode6507 0x9A 0x12 0x34, decode6507 0x9B 0x12 0x34,
      decode6507 0x9C 0x12 0x34, decode6507 0x9D 0x12 0x34, decode6507 0x9E 0x12 0x34, decode6507 0x9F 0x12 0x34] =
      [.bcc 0x12, .staIzy 0x12, .jam92, .shaIzy 0x12, .styZpx 0x12, .staZpx 0x12, .stxZpy 0x12, .saxZpy 0x12, .tya,
        .staAby 0x12 0x34, .txs, .tasAby 0x12 0x34, .shyAbx 0x12 0x34, .staAbx 0x12 0x34, .shxAby 0x12 0x34,
        .shaAby 0x12 0x34] := rfl

/-- Opcodes A0 to AF, operand bytes 12 and 34 (R131, R147). -/
theorem test_decode_row_A :
    [decode6507 0xA0 0x12 0x34, decode6507 0xA1 0x12 0x34, decode6507 0xA2 0x12 0x34, decode6507 0xA3 0x12 0x34,
      decode6507 0xA4 0x12 0x34, decode6507 0xA5 0x12 0x34, decode6507 0xA6 0x12 0x34, decode6507 0xA7 0x12 0x34,
      decode6507 0xA8 0x12 0x34, decode6507 0xA9 0x12 0x34, decode6507 0xAA 0x12 0x34, decode6507 0xAB 0x12 0x34,
      decode6507 0xAC 0x12 0x34, decode6507 0xAD 0x12 0x34, decode6507 0xAE 0x12 0x34, decode6507 0xAF 0x12 0x34] =
      [.ldyImm 0x12, .ldaIzx 0x12, .ldxImm 0x12, .laxIzx 0x12, .ldyZp 0x12, .ldaZp 0x12, .ldxZp 0x12, .laxZp 0x12,
        .tay, .ldaImm 0x12, .tax, .lxaImm 0x12, .ldyAbs 0x12 0x34, .ldaAbs 0x12 0x34, .ldxAbs 0x12 0x34,
        .laxAbs 0x12 0x34] := rfl

/-- Opcodes B0 to BF, operand bytes 12 and 34 (R131, R147). -/
theorem test_decode_row_B :
    [decode6507 0xB0 0x12 0x34, decode6507 0xB1 0x12 0x34, decode6507 0xB2 0x12 0x34, decode6507 0xB3 0x12 0x34,
      decode6507 0xB4 0x12 0x34, decode6507 0xB5 0x12 0x34, decode6507 0xB6 0x12 0x34, decode6507 0xB7 0x12 0x34,
      decode6507 0xB8 0x12 0x34, decode6507 0xB9 0x12 0x34, decode6507 0xBA 0x12 0x34, decode6507 0xBB 0x12 0x34,
      decode6507 0xBC 0x12 0x34, decode6507 0xBD 0x12 0x34, decode6507 0xBE 0x12 0x34, decode6507 0xBF 0x12 0x34] =
      [.bcs 0x12, .ldaIzy 0x12, .jamB2, .laxIzy 0x12, .ldyZpx 0x12, .ldaZpx 0x12, .ldxZpy 0x12, .laxZpy 0x12, .clv,
        .ldaAby 0x12 0x34, .tsx, .lasAby 0x12 0x34, .ldyAbx 0x12 0x34, .ldaAbx 0x12 0x34, .ldxAby 0x12 0x34,
        .laxAby 0x12 0x34] := rfl

/-- Opcodes C0 to CF, operand bytes 12 and 34 (R131, R147). -/
theorem test_decode_row_C :
    [decode6507 0xC0 0x12 0x34, decode6507 0xC1 0x12 0x34, decode6507 0xC2 0x12 0x34, decode6507 0xC3 0x12 0x34,
      decode6507 0xC4 0x12 0x34, decode6507 0xC5 0x12 0x34, decode6507 0xC6 0x12 0x34, decode6507 0xC7 0x12 0x34,
      decode6507 0xC8 0x12 0x34, decode6507 0xC9 0x12 0x34, decode6507 0xCA 0x12 0x34, decode6507 0xCB 0x12 0x34,
      decode6507 0xCC 0x12 0x34, decode6507 0xCD 0x12 0x34, decode6507 0xCE 0x12 0x34, decode6507 0xCF 0x12 0x34] =
      [.cpyImm 0x12, .cmpIzx 0x12, .nopImmC2 0x12, .dcpIzx 0x12, .cpyZp 0x12, .cmpZp 0x12, .decZp 0x12, .dcpZp 0x12,
        .iny, .cmpImm 0x12, .dex, .sbxImm 0x12, .cpyAbs 0x12 0x34, .cmpAbs 0x12 0x34, .decAbs 0x12 0x34,
        .dcpAbs 0x12 0x34] := rfl

/-- Opcodes D0 to DF, operand bytes 12 and 34 (R131, R147). -/
theorem test_decode_row_D :
    [decode6507 0xD0 0x12 0x34, decode6507 0xD1 0x12 0x34, decode6507 0xD2 0x12 0x34, decode6507 0xD3 0x12 0x34,
      decode6507 0xD4 0x12 0x34, decode6507 0xD5 0x12 0x34, decode6507 0xD6 0x12 0x34, decode6507 0xD7 0x12 0x34,
      decode6507 0xD8 0x12 0x34, decode6507 0xD9 0x12 0x34, decode6507 0xDA 0x12 0x34, decode6507 0xDB 0x12 0x34,
      decode6507 0xDC 0x12 0x34, decode6507 0xDD 0x12 0x34, decode6507 0xDE 0x12 0x34, decode6507 0xDF 0x12 0x34] =
      [.bne 0x12, .cmpIzy 0x12, .jamD2, .dcpIzy 0x12, .nopZpxD4 0x12, .cmpZpx 0x12, .decZpx 0x12, .dcpZpx 0x12, .cld,
        .cmpAby 0x12 0x34, .nopDA, .dcpAby 0x12 0x34, .nopAbxDC 0x12 0x34, .cmpAbx 0x12 0x34, .decAbx 0x12 0x34,
        .dcpAbx 0x12 0x34] := rfl

/-- Opcodes E0 to EF, operand bytes 12 and 34 (R131, R147). -/
theorem test_decode_row_E :
    [decode6507 0xE0 0x12 0x34, decode6507 0xE1 0x12 0x34, decode6507 0xE2 0x12 0x34, decode6507 0xE3 0x12 0x34,
      decode6507 0xE4 0x12 0x34, decode6507 0xE5 0x12 0x34, decode6507 0xE6 0x12 0x34, decode6507 0xE7 0x12 0x34,
      decode6507 0xE8 0x12 0x34, decode6507 0xE9 0x12 0x34, decode6507 0xEA 0x12 0x34, decode6507 0xEB 0x12 0x34,
      decode6507 0xEC 0x12 0x34, decode6507 0xED 0x12 0x34, decode6507 0xEE 0x12 0x34, decode6507 0xEF 0x12 0x34] =
      [.cpxImm 0x12, .sbcIzx 0x12, .nopImmE2 0x12, .iscIzx 0x12, .cpxZp 0x12, .sbcZp 0x12, .incZp 0x12, .iscZp 0x12,
        .inx, .sbcImm 0x12, .nop, .sbcImmEB 0x12, .cpxAbs 0x12 0x34, .sbcAbs 0x12 0x34, .incAbs 0x12 0x34,
        .iscAbs 0x12 0x34] := rfl

/-- Opcodes F0 to FF, operand bytes 12 and 34 (R131, R147). -/
theorem test_decode_row_F :
    [decode6507 0xF0 0x12 0x34, decode6507 0xF1 0x12 0x34, decode6507 0xF2 0x12 0x34, decode6507 0xF3 0x12 0x34,
      decode6507 0xF4 0x12 0x34, decode6507 0xF5 0x12 0x34, decode6507 0xF6 0x12 0x34, decode6507 0xF7 0x12 0x34,
      decode6507 0xF8 0x12 0x34, decode6507 0xF9 0x12 0x34, decode6507 0xFA 0x12 0x34, decode6507 0xFB 0x12 0x34,
      decode6507 0xFC 0x12 0x34, decode6507 0xFD 0x12 0x34, decode6507 0xFE 0x12 0x34, decode6507 0xFF 0x12 0x34] =
      [.beq 0x12, .sbcIzy 0x12, .jamF2, .iscIzy 0x12, .nopZpxF4 0x12, .sbcZpx 0x12, .incZpx 0x12, .iscZpx 0x12, .sed,
        .sbcAby 0x12 0x34, .nopFA, .iscAby 0x12 0x34, .nopAbxFC 0x12 0x34, .sbcAbx 0x12 0x34, .incAbx 0x12 0x34,
        .iscAbx 0x12 0x34] := rfl

/-- Format 1 (R531, R532). -/
theorem test_decode_format_1 :
    [decodeThumb 0x056B, decodeThumb 0x0D6B, decodeThumb 0x156B] =
      [.ok (.tLslImm 3 5 0x15), .ok (.tLsrImm 3 5 0x15), .ok (.tAsrImm 3 5 0x15)] := rfl

/-- Format 2 (R531, R532). -/
theorem test_decode_format_2 :
    [decodeThumb 0x19AB, decodeThumb 0x1BAB, decodeThumb 0x1DAB, decodeThumb 0x1FAB] =
      [.ok (.tAddReg 3 5 6), .ok (.tSubReg 3 5 6), .ok (.tAddImm3 3 5 6), .ok (.tSubImm3 3 5 6)] := rfl

/-- Format 3 (R531, R532). -/
theorem test_decode_format_3 :
    [decodeThumb 0x23A6, decodeThumb 0x2BA6, decodeThumb 0x33A6, decodeThumb 0x3BA6] =
      [.ok (.tMovImm 3 0xA6), .ok (.tCmpImm 3 0xA6), .ok (.tAddImm8 3 0xA6), .ok (.tSubImm8 3 0xA6)] := rfl

/-- Format 4 (R531, R532). -/
theorem test_decode_format_4 :
    [decodeThumb 0x402B, decodeThumb 0x406B, decodeThumb 0x40AB, decodeThumb 0x40EB, decodeThumb 0x412B,
      decodeThumb 0x416B, decodeThumb 0x41AB, decodeThumb 0x41EB, decodeThumb 0x422B, decodeThumb 0x426B,
      decodeThumb 0x42AB, decodeThumb 0x42EB, decodeThumb 0x432B, decodeThumb 0x436B, decodeThumb 0x43AB,
      decodeThumb 0x43EB] =
      [.ok (.tAnd 3 5), .ok (.tEor 3 5), .ok (.tLslReg 3 5), .ok (.tLsrReg 3 5), .ok (.tAsrReg 3 5), .ok (.tAdc 3 5),
        .ok (.tSbc 3 5), .ok (.tRorReg 3 5), .ok (.tTst 3 5), .ok (.tNeg 3 5), .ok (.tCmpReg 3 5), .ok (.tCmn 3 5),
        .ok (.tOrr 3 5), .ok (.tMul 3 5), .ok (.tBic 3 5), .ok (.tMvn 3 5)] := rfl

/-- Format 5 (R531, R532). -/
theorem test_decode_format_5 :
    [decodeThumb 0x44F1, decodeThumb 0x45F1, decodeThumb 0x46F1, decodeThumb 0x4770] =
      [.ok (.tAddHi 9 14), .ok (.tCmpHi 9 14), .ok (.tMovHi 9 14), .ok (.tBx 14)] := rfl

/-- Format 6 (R531, R532). -/
theorem test_decode_format_6 :
    [decodeThumb 0x4BA6] =
      [.ok (.tLdrPc 3 0xA6)] := rfl

/-- Format 7 (R531, R532). -/
theorem test_decode_format_7 :
    [decodeThumb 0x51AB, decodeThumb 0x55AB, decodeThumb 0x59AB, decodeThumb 0x5DAB] =
      [.ok (.tStrReg 3 5 6), .ok (.tStrbReg 3 5 6), .ok (.tLdrReg 3 5 6), .ok (.tLdrbReg 3 5 6)] := rfl

/-- Format 8 (R531, R532). -/
theorem test_decode_format_8 :
    [decodeThumb 0x53AB, decodeThumb 0x5BAB, decodeThumb 0x57AB, decodeThumb 0x5FAB] =
      [.ok (.tStrhReg 3 5 6), .ok (.tLdrhReg 3 5 6), .ok (.tLdsbReg 3 5 6), .ok (.tLdshReg 3 5 6)] := rfl

/-- Format 9 (R531, R532). -/
theorem test_decode_format_9 :
    [decodeThumb 0x656B, decodeThumb 0x6D6B, decodeThumb 0x756B, decodeThumb 0x7D6B] =
      [.ok (.tStrImm 3 5 0x15), .ok (.tLdrImm 3 5 0x15), .ok (.tStrbImm 3 5 0x15), .ok (.tLdrbImm 3 5 0x15)] := rfl

/-- Format 10 (R531, R532). -/
theorem test_decode_format_10 :
    [decodeThumb 0x856B, decodeThumb 0x8D6B] =
      [.ok (.tStrhImm 3 5 0x15), .ok (.tLdrhImm 3 5 0x15)] := rfl

/-- Format 11 (R531, R532). -/
theorem test_decode_format_11 :
    [decodeThumb 0x93A6, decodeThumb 0x9BA6] =
      [.ok (.tStrSp 3 0xA6), .ok (.tLdrSp 3 0xA6)] := rfl

/-- Format 12 (R531, R532). -/
theorem test_decode_format_12 :
    [decodeThumb 0xA3A6, decodeThumb 0xABA6] =
      [.ok (.tAddPc 3 0xA6), .ok (.tAddSp 3 0xA6)] := rfl

/-- Format 13 (R531, R532). -/
theorem test_decode_format_13 :
    [decodeThumb 0xB04B, decodeThumb 0xB0CB] =
      [.ok (.tAddSpImm 0x4B), .ok (.tSubSpImm 0x4B)] := rfl

/-- Format 14 (R531, R532). -/
theorem test_decode_format_14 :
    [decodeThumb 0xB5A6, decodeThumb 0xBDA6] =
      [.ok (.tPush 1 0xA6), .ok (.tPop 1 0xA6)] := rfl

/-- Format 15 (R531, R532). -/
theorem test_decode_format_15 :
    [decodeThumb 0xC3A6, decodeThumb 0xCBA6] =
      [.ok (.tStmia 3 0xA6), .ok (.tLdmia 3 0xA6)] := rfl

/-- Format 16 (R531, R532). -/
theorem test_decode_format_16 :
    [decodeThumb 0xD0A6, decodeThumb 0xD1A6, decodeThumb 0xD2A6, decodeThumb 0xD3A6, decodeThumb 0xD4A6,
      decodeThumb 0xD5A6, decodeThumb 0xD6A6, decodeThumb 0xD7A6, decodeThumb 0xD8A6, decodeThumb 0xD9A6,
      decodeThumb 0xDAA6, decodeThumb 0xDBA6, decodeThumb 0xDCA6, decodeThumb 0xDDA6] =
      [.ok (.tBeq 0xA6), .ok (.tBne 0xA6), .ok (.tBcs 0xA6), .ok (.tBcc 0xA6), .ok (.tBmi 0xA6), .ok (.tBpl 0xA6),
        .ok (.tBvs 0xA6), .ok (.tBvc 0xA6), .ok (.tBhi 0xA6), .ok (.tBls 0xA6), .ok (.tBge 0xA6), .ok (.tBlt 0xA6),
        .ok (.tBgt 0xA6), .ok (.tBle 0xA6)] := rfl

/-- Format 17 (R531, R532). -/
theorem test_decode_format_17 :
    [decodeThumb 0xDFA6] =
      [.ok (.tSwi 0xA6)] := rfl

/-- Format 18 (R531, R532). -/
theorem test_decode_format_18 :
    [decodeThumb 0xE5A3] =
      [.ok (.tB 0x5A3)] := rfl

/-- Format 19 (R531, R532). -/
theorem test_decode_format_19 :
    [decodeThumb 0xF5A3, decodeThumb 0xFDA3] =
      [.ok (.tBlHi 0x5A3), .ok (.tBlLo 0x5A3)] := rfl

/-- Halfwords that no row matches (R533). -/
theorem test_decode_undefined :
    [decodeThumb 0xB100, decodeThumb 0xB600, decodeThumb 0xBE00, decodeThumb 0xDE00, decodeThumb 0xE800, decodeThumb 0x4780,
      decodeThumb 0x4771].map (fun r => match r with | .ok _ => true | .error _ => false) =
      [false, false, false, false, false, false, false] := rfl

/-- An operand word of zeros, and an opcode alone, in the table's numbering. -/
theorem test_decode_table_words :
    decodeTableWord 8 0xEA = some .nop ∧ decodeTableWord 24 0x0000AD = some (.ldaAbs 0x00 0x00) ∧
      decodeTableWord 16 0x2005 = some (.tMovImm 0 5) := ⟨rfl, rfl, rfl⟩

/-! ### One step of the 6507 -/

/-- The 6507's registers, with the flags as PHP would push them. -/
structure Regs where
  a : Byte
  x : Byte
  y : Byte
  sp : Byte
  pc : Addr
  p : Byte
  deriving DecidableEq, Repr

/-- The block with a `Flat` cartridge, these bytes in ROM and RAM, and these registers. -/
def flat (rom ram : Memory) (k : Regs) : State :=
  { State.reset with
    cpu := Cpu.withStatus k.p { Cpu.reset with a := k.a, x := k.x, y := k.y, sp := k.sp, pc := k.pc, resetting := false }
    riot := { State.reset.riot with ram := Memory.writes [] ram }
    mapper := { State.reset.mapper with rom := Memory.writes [] rom } }

/-- The registers, some RAM bytes and the driver steps after one step. -/
def after (rom ram : Memory) (k : Regs) (cells : List Nat) : Option (Regs × List Byte × Nat) :=
  match step (flat rom ram k) with
  | .next t =>
    some (⟨t.cpu.a, t.cpu.x, t.cpu.y, t.cpu.sp, t.cpu.pc, t.cpu.status⟩, cells.map t.riot.ram.read, t.riot.steps)
  | _ => none

/-- L4: `LDA $F0F0,X (page crossed)` (95_test_vectors.md). -/
theorem test_L4 :
    after [(0x000, 0xBD), (0x001, 0xF0), (0x002, 0xF0), (0x110, 0x34)] [] ⟨0x00, 0x20, 0x00, 0xFF, 0xF000, 0x34⟩ [] =
      some (⟨0x34, 0x20, 0x00, 0xFF, 0xF003, 0x34⟩, [], 5) := by decide

set_option maxRecDepth 4000 in
/-- L5: `LDA ($80),Y (page crossed)` (95_test_vectors.md). -/
theorem test_L5 :
    after [(0x000, 0xB1), (0x001, 0x80), (0x110, 0x99)] [(0x00, 0xF0), (0x01, 0xF0)] ⟨0x00, 0x00, 0x20, 0xFF, 0xF000,
      0x34⟩ [] =
      some (⟨0x99, 0x00, 0x20, 0xFF, 0xF002, 0xB4⟩, [], 6) := by decide

set_option maxRecDepth 4000 in
/-- L6: `LDA ($F0,X) (pointer wraps in page 0)` (95_test_vectors.md). -/
theorem test_L6 :
    after [(0x000, 0xA1), (0x001, 0xF0), (0x234, 0x77)] [(0x00, 0x34), (0x01, 0xF2)] ⟨0x00, 0x90, 0x00, 0xFF, 0xF000,
      0x34⟩ [] =
      some (⟨0x77, 0x90, 0x00, 0xFF, 0xF002, 0x34⟩, [], 6) := by decide

/-- L7: `LDX $F0,Y (wraps in page 0)` (95_test_vectors.md). -/
theorem test_L7 :
    after [(0x000, 0xB6), (0x001, 0xF0)] [(0x10, 0xC3)] ⟨0x00, 0x00, 0xA0, 0xFF, 0xF000, 0x34⟩ [] =
      some (⟨0x00, 0xC3, 0xA0, 0xFF, 0xF002, 0xB4⟩, [], 4) := by decide

/-- L8: `LDY $80` (95_test_vectors.md). -/
theorem test_L8 :
    after [(0x000, 0xA4), (0x001, 0x80)] [(0x00, 0x00)] ⟨0x00, 0x00, 0x09, 0xFF, 0xF000, 0x34⟩ [] =
      some (⟨0x00, 0x00, 0x00, 0xFF, 0xF002, 0x36⟩, [], 3) := by decide

/-- L10: `STA $00F0,X (page crossed; RAM mirror at 0190)` (95_test_vectors.md). -/
theorem test_L10 :
    after [(0x000, 0x9D), (0x001, 0xF0), (0x002, 0x00)] [] ⟨0xAB, 0xA0, 0x00, 0xFF, 0xF000, 0x34⟩ [0x10] =
      some (⟨0xAB, 0xA0, 0x00, 0xFF, 0xF003, 0x34⟩, [0xAB], 5) := by decide

set_option maxRecDepth 4000 in
/-- L11: `STA ($80),Y` (95_test_vectors.md). -/
theorem test_L11 :
    after [(0x000, 0x91), (0x001, 0x80)] [(0x00, 0x80), (0x01, 0x00)] ⟨0xCD, 0x00, 0x10, 0xFF, 0xF000, 0x34⟩ [0x10] =
      some (⟨0xCD, 0x00, 0x10, 0xFF, 0xF002, 0x34⟩, [0xCD], 6) := by decide

/-- L12: `STX $80,Y` (95_test_vectors.md). -/
theorem test_L12 :
    after [(0x000, 0x96), (0x001, 0x80)] [] ⟨0x00, 0x11, 0x02, 0xFF, 0xF000, 0x34⟩ [0x02] =
      some (⟨0x00, 0x11, 0x02, 0xFF, 0xF002, 0x34⟩, [0x11], 4) := by decide

/-- L13: `STY $0085` (95_test_vectors.md). -/
theorem test_L13 :
    after [(0x000, 0x8C), (0x001, 0x85), (0x002, 0x00)] [] ⟨0x00, 0x00, 0x22, 0xFF, 0xF000, 0x34⟩ [0x05] =
      some (⟨0x00, 0x00, 0x22, 0xFF, 0xF003, 0x34⟩, [0x22], 4) := by decide

/-- L15: `TXS (no flags)` (95_test_vectors.md). -/
theorem test_L15 :
    after [(0x000, 0x9A)] [] ⟨0x00, 0x00, 0x00, 0xFF, 0xF000, 0xB4⟩ [] =
      some (⟨0x00, 0x00, 0x00, 0x00, 0xF001, 0xB4⟩, [], 2) := by decide

/-- L16: `TSX` (95_test_vectors.md). -/
theorem test_L16 :
    after [(0x000, 0xBA)] [] ⟨0x00, 0x07, 0x00, 0x00, 0xF000, 0x34⟩ [] =
      some (⟨0x00, 0x00, 0x00, 0x00, 0xF001, 0x36⟩, [], 2) := by decide

/-- A1: `ADC #$50` (95_test_vectors.md). -/
theorem test_A1 :
    after [(0x000, 0x69), (0x001, 0x50)] [] ⟨0x50, 0x00, 0x00, 0xFF, 0xF000, 0x34⟩ [] =
      some (⟨0xA0, 0x00, 0x00, 0xFF, 0xF002, 0xF4⟩, [], 2) := by decide

/-- A4: `ADC #$00` (95_test_vectors.md). -/
theorem test_A4 :
    after [(0x000, 0x69), (0x001, 0x00)] [] ⟨0x7F, 0x00, 0x00, 0xFF, 0xF000, 0x35⟩ [] =
      some (⟨0x80, 0x00, 0x00, 0xFF, 0xF002, 0xF4⟩, [], 2) := by decide

/-- A7: `SBC #$01` (95_test_vectors.md). -/
theorem test_A7 :
    after [(0x000, 0xE9), (0x001, 0x01)] [] ⟨0x00, 0x00, 0x00, 0xFF, 0xF000, 0x34⟩ [] =
      some (⟨0xFE, 0x00, 0x00, 0xFF, 0xF002, 0xB4⟩, [], 2) := by decide

/-- A10: `ADC #$46 (decimal)` (95_test_vectors.md). -/
theorem test_A10 :
    after [(0x000, 0x69), (0x001, 0x46)] [] ⟨0x58, 0x00, 0x00, 0xFF, 0xF000, 0x3D⟩ [] =
      some (⟨0x05, 0x00, 0x00, 0xFF, 0xF002, 0xFD⟩, [], 2) := by decide

/-- A13: `SBC #$21 (decimal)` (95_test_vectors.md). -/
theorem test_A13 :
    after [(0x000, 0xE9), (0x001, 0x21)] [] ⟨0x12, 0x00, 0x00, 0xFF, 0xF000, 0x3D⟩ [] =
      some (⟨0x91, 0x00, 0x00, 0xFF, 0xF002, 0xBC⟩, [], 2) := by decide

/-- A15: `AND #$0F` (95_test_vectors.md). -/
theorem test_A15 :
    after [(0x000, 0x29), (0x001, 0x0F)] [] ⟨0xF0, 0x00, 0x00, 0xFF, 0xF000, 0x34⟩ [] =
      some (⟨0x00, 0x00, 0x00, 0xFF, 0xF002, 0x36⟩, [], 2) := by decide

/-- A16: `ORA $80` (95_test_vectors.md). -/
theorem test_A16 :
    after [(0x000, 0x05), (0x001, 0x80)] [(0x00, 0x80)] ⟨0x01, 0x00, 0x00, 0xFF, 0xF000, 0x34⟩ [] =
      some (⟨0x81, 0x00, 0x00, 0xFF, 0xF002, 0xB4⟩, [], 3) := by decide

/-- A17: `EOR #$FF` (95_test_vectors.md). -/
theorem test_A17 :
    after [(0x000, 0x49), (0x001, 0xFF)] [] ⟨0xFF, 0x00, 0x00, 0xFF, 0xF000, 0x34⟩ [] =
      some (⟨0x00, 0x00, 0x00, 0xFF, 0xF002, 0x36⟩, [], 2) := by decide

/-- A19: `CMP #$41 (less)` (95_test_vectors.md). -/
theorem test_A19 :
    after [(0x000, 0xC9), (0x001, 0x41)] [] ⟨0x40, 0x00, 0x00, 0xFF, 0xF000, 0x34⟩ [] =
      some (⟨0x40, 0x00, 0x00, 0xFF, 0xF002, 0xB4⟩, [], 2) := by decide

/-- A21: `CPX #$10` (95_test_vectors.md). -/
theorem test_A21 :
    after [(0x000, 0xE0), (0x001, 0x10)] [] ⟨0x00, 0x20, 0x00, 0xFF, 0xF000, 0x34⟩ [] =
      some (⟨0x00, 0x20, 0x00, 0xFF, 0xF002, 0x35⟩, [], 2) := by decide

/-- A22: `CPY $80` (95_test_vectors.md). -/
theorem test_A22 :
    after [(0x000, 0xC4), (0x001, 0x80)] [(0x00, 0x01)] ⟨0x00, 0x00, 0x00, 0xFF, 0xF000, 0x34⟩ [] =
      some (⟨0x00, 0x00, 0x00, 0xFF, 0xF002, 0xB4⟩, [], 3) := by decide

/-- A23: `BIT $80` (95_test_vectors.md). -/
theorem test_A23 :
    after [(0x000, 0x24), (0x001, 0x80)] [(0x00, 0xC0)] ⟨0x01, 0x00, 0x00, 0xFF, 0xF000, 0x34⟩ [] =
      some (⟨0x01, 0x00, 0x00, 0xFF, 0xF002, 0xF6⟩, [], 3) := by decide

/-- S1: `ASL A` (95_test_vectors.md). -/
theorem test_S1 :
    after [(0x000, 0x0A)] [] ⟨0x80, 0x00, 0x00, 0xFF, 0xF000, 0x34⟩ [] =
      some (⟨0x00, 0x00, 0x00, 0xFF, 0xF001, 0x37⟩, [], 2) := by decide

/-- S2: `LSR A` (95_test_vectors.md). -/
theorem test_S2 :
    after [(0x000, 0x4A)] [] ⟨0x01, 0x00, 0x00, 0xFF, 0xF000, 0x34⟩ [] =
      some (⟨0x00, 0x00, 0x00, 0xFF, 0xF001, 0x37⟩, [], 2) := by decide

/-- S3: `ROL A` (95_test_vectors.md). -/
theorem test_S3 :
    after [(0x000, 0x2A)] [] ⟨0x80, 0x00, 0x00, 0xFF, 0xF000, 0x35⟩ [] =
      some (⟨0x01, 0x00, 0x00, 0xFF, 0xF001, 0x35⟩, [], 2) := by decide

/-- S4: `ROR A` (95_test_vectors.md). -/
theorem test_S4 :
    after [(0x000, 0x6A)] [] ⟨0x01, 0x00, 0x00, 0xFF, 0xF000, 0x35⟩ [] =
      some (⟨0x80, 0x00, 0x00, 0xFF, 0xF001, 0xB5⟩, [], 2) := by decide

/-- S5: `ASL $80` (95_test_vectors.md). -/
theorem test_S5 :
    after [(0x000, 0x06), (0x001, 0x80)] [(0x00, 0x41)] ⟨0x00, 0x00, 0x00, 0xFF, 0xF000, 0x34⟩ [0x00] =
      some (⟨0x00, 0x00, 0x00, 0xFF, 0xF002, 0xB4⟩, [0x82], 5) := by decide

set_option maxRecDepth 4000 in
/-- S6: `LSR $80,X` (95_test_vectors.md). -/
theorem test_S6 :
    after [(0x000, 0x56), (0x001, 0x80)] [(0x01, 0x02)] ⟨0x00, 0x01, 0x00, 0xFF, 0xF000, 0x34⟩ [0x01] =
      some (⟨0x00, 0x01, 0x00, 0xFF, 0xF002, 0x34⟩, [0x01], 6) := by decide

set_option maxRecDepth 4000 in
/-- S7: `ROL $0080` (95_test_vectors.md). -/
theorem test_S7 :
    after [(0x000, 0x2E), (0x001, 0x80), (0x002, 0x00)] [(0x00, 0x40)] ⟨0x00, 0x00, 0x00, 0xFF, 0xF000, 0x34⟩ [0x00] =
      some (⟨0x00, 0x00, 0x00, 0xFF, 0xF003, 0xB4⟩, [0x80], 6) := by decide

set_option maxRecDepth 4000 in
/-- S8: `ROR $00F0,X (page crossed)` (95_test_vectors.md). -/
theorem test_S8 :
    after [(0x000, 0x7E), (0x001, 0xF0), (0x002, 0x00)] [(0x10, 0x00)] ⟨0x00, 0xA0, 0x00, 0xFF, 0xF000, 0x35⟩ [0x10] =
      some (⟨0x00, 0xA0, 0x00, 0xFF, 0xF003, 0xB4⟩, [0x80], 7) := by decide

/-- S9: `INC $80` (95_test_vectors.md). -/
theorem test_S9 :
    after [(0x000, 0xE6), (0x001, 0x80)] [(0x00, 0xFF)] ⟨0x00, 0x00, 0x00, 0xFF, 0xF000, 0x34⟩ [0x00] =
      some (⟨0x00, 0x00, 0x00, 0xFF, 0xF002, 0x36⟩, [0x00], 5) := by decide

/-- S10: `DEC $80` (95_test_vectors.md). -/
theorem test_S10 :
    after [(0x000, 0xC6), (0x001, 0x80)] [(0x00, 0x00)] ⟨0x00, 0x00, 0x00, 0xFF, 0xF000, 0x34⟩ [0x00] =
      some (⟨0x00, 0x00, 0x00, 0xFF, 0xF002, 0xB4⟩, [0xFF], 5) := by decide

/-- S12: `INX` (95_test_vectors.md). -/
theorem test_S12 :
    after [(0x000, 0xE8)] [] ⟨0x00, 0xFF, 0x00, 0xFF, 0xF000, 0x34⟩ [] =
      some (⟨0x00, 0x00, 0x00, 0xFF, 0xF001, 0x36⟩, [], 2) := by decide

/-- S13: `DEX` (95_test_vectors.md). -/
theorem test_S13 :
    after [(0x000, 0xCA)] [] ⟨0x00, 0x00, 0x00, 0xFF, 0xF000, 0x34⟩ [] =
      some (⟨0x00, 0xFF, 0x00, 0xFF, 0xF001, 0xB4⟩, [], 2) := by decide

/-- S14: `INY` (95_test_vectors.md). -/
theorem test_S14 :
    after [(0x000, 0xC8)] [] ⟨0x00, 0x00, 0x7F, 0xFF, 0xF000, 0x34⟩ [] =
      some (⟨0x00, 0x00, 0x80, 0xFF, 0xF001, 0xB4⟩, [], 2) := by decide

/-- S15: `DEY` (95_test_vectors.md). -/
theorem test_S15 :
    after [(0x000, 0x88)] [] ⟨0x00, 0x00, 0x01, 0xFF, 0xF000, 0x34⟩ [] =
      some (⟨0x00, 0x00, 0x00, 0xFF, 0xF001, 0x36⟩, [], 2) := by decide

/-- C1: `JMP $F123` (95_test_vectors.md). -/
theorem test_C1 :
    after [(0x000, 0x4C), (0x001, 0x23), (0x002, 0xF1)] [] ⟨0x00, 0x00, 0x00, 0xFF, 0xF000, 0x34⟩ [] =
      some (⟨0x00, 0x00, 0x00, 0xFF, 0xF123, 0x34⟩, [], 3) := by decide

/-- C2: `JMP ($F0FF) (page-wrap quirk)` (95_test_vectors.md). -/
theorem test_C2 :
    after [(0x000, 0x6C), (0x001, 0xFF), (0x002, 0xF0), (0x0FF, 0x34), (0x100, 0x99)] [] ⟨0x00, 0x00, 0x00, 0xFF,
      0xF000, 0x34⟩ [] =
      some (⟨0x00, 0x00, 0x00, 0xFF, 0x6C34, 0x34⟩, [], 5) := by decide

set_option maxRecDepth 4000 in
/-- C4: `JSR $F210` (95_test_vectors.md). -/
theorem test_C4 :
    after [(0x000, 0x20), (0x001, 0x10), (0x002, 0xF2)] [] ⟨0x00, 0x00, 0x00, 0xFF, 0xF000, 0x34⟩ [0x7F, 0x7E] =
      some (⟨0x00, 0x00, 0x00, 0xFD, 0xF210, 0x34⟩, [0xF0, 0x02], 6) := by decide

set_option maxRecDepth 4000 in
/-- C5: `RTS` (95_test_vectors.md). -/
theorem test_C5 :
    after [(0x000, 0x60)] [(0x7E, 0x02), (0x7F, 0xF0)] ⟨0x00, 0x00, 0x00, 0xFD, 0xF000, 0x34⟩ [] =
      some (⟨0x00, 0x00, 0x00, 0xFF, 0xF003, 0x34⟩, [], 6) := by decide

set_option maxRecDepth 4000 in
/-- C6: `BRK` (95_test_vectors.md). -/
theorem test_C6 :
    after [(0x000, 0x00), (0x001, 0xEE), (0xFFE, 0x20), (0xFFF, 0xF0)] [] ⟨0x00, 0x00, 0x00, 0xFF, 0xF000,
      0xB5⟩ [0x7F, 0x7E, 0x7D] =
      some (⟨0x00, 0x00, 0x00, 0xFC, 0xF020, 0xB5⟩, [0xF0, 0x02, 0xB5], 7) := by decide

set_option maxRecDepth 4000 in
/-- C7: `RTI` (95_test_vectors.md). -/
theorem test_C7 :
    after [(0x000, 0x40)] [(0x7D, 0xC3), (0x7E, 0x08), (0x7F, 0xF0)] ⟨0x00, 0x00, 0x00, 0xFC, 0xF000, 0x34⟩ [] =
      some (⟨0x00, 0x00, 0x00, 0xFF, 0xF008, 0xF3⟩, [], 6) := by decide

/-- C8: `BNE +5 (not taken)` (95_test_vectors.md). -/
theorem test_C8 :
    after [(0x000, 0xD0), (0x001, 0x05)] [] ⟨0x00, 0x00, 0x00, 0xFF, 0xF000, 0x36⟩ [] =
      some (⟨0x00, 0x00, 0x00, 0xFF, 0xF002, 0x36⟩, [], 2) := by decide

/-- C10: `BEQ -4 (taken, backwards, page crossed)` (95_test_vectors.md). -/
theorem test_C10 :
    after [(0x100, 0xF0), (0x101, 0xFC)] [] ⟨0x00, 0x00, 0x00, 0xFF, 0xF100, 0x36⟩ [] =
      some (⟨0x00, 0x00, 0x00, 0xFF, 0xF0FE, 0x36⟩, [], 4) := by decide

/-- C12: `BCS +$10 (taken, page crossed)` (95_test_vectors.md). -/
theorem test_C12 :
    after [(0x0F0, 0xB0), (0x0F1, 0x10)] [] ⟨0x00, 0x00, 0x00, 0xFF, 0xF0F0, 0x35⟩ [] =
      some (⟨0x00, 0x00, 0x00, 0xFF, 0xF102, 0x35⟩, [], 4) := by decide

/-- C13: `BMI -$80 (taken, page crossed)` (95_test_vectors.md). -/
theorem test_C13 :
    after [(0x100, 0x30), (0x101, 0x80)] [] ⟨0x00, 0x00, 0x00, 0xFF, 0xF100, 0xB4⟩ [] =
      some (⟨0x00, 0x00, 0x00, 0xFF, 0xF082, 0xB4⟩, [], 4) := by decide

/-- C17: `BVC +2 (taken)` (95_test_vectors.md). -/
theorem test_C17 :
    after [(0x000, 0x50), (0x001, 0x02)] [] ⟨0x00, 0x00, 0x00, 0xFF, 0xF000, 0x34⟩ [] =
      some (⟨0x00, 0x00, 0x00, 0xFF, 0xF004, 0x34⟩, [], 3) := by decide

/-- C19: `PHA` (95_test_vectors.md). -/
theorem test_C19 :
    after [(0x000, 0x48)] [] ⟨0x5A, 0x00, 0x00, 0xFF, 0xF000, 0x34⟩ [0x7F] =
      some (⟨0x5A, 0x00, 0x00, 0xFE, 0xF001, 0x34⟩, [0x5A], 3) := by decide

/-- C20: `PHP` (95_test_vectors.md). -/
theorem test_C20 :
    after [(0x000, 0x08)] [] ⟨0x00, 0x00, 0x00, 0xFF, 0xF000, 0xB5⟩ [0x7F] =
      some (⟨0x00, 0x00, 0x00, 0xFE, 0xF001, 0xB5⟩, [0xB5], 3) := by decide

/-- C21: `PLA` (95_test_vectors.md). -/
theorem test_C21 :
    after [(0x000, 0x68)] [(0x7F, 0x00)] ⟨0x11, 0x00, 0x00, 0xFE, 0xF000, 0x34⟩ [] =
      some (⟨0x00, 0x00, 0x00, 0xFF, 0xF001, 0x36⟩, [], 4) := by decide

/-- C23: `PLP` (95_test_vectors.md). -/
theorem test_C23 :
    after [(0x000, 0x28)] [(0x7F, 0x30)] ⟨0x00, 0x00, 0x00, 0xFE, 0xF000, 0xFF⟩ [] =
      some (⟨0x00, 0x00, 0x00, 0xFF, 0xF001, 0x30⟩, [], 4) := by decide

/-- C24: `PHA (SP wraps)` (95_test_vectors.md). -/
theorem test_C24 :
    after [(0x000, 0x48)] [] ⟨0x77, 0x00, 0x00, 0x00, 0xF000, 0x34⟩ [] =
      some (⟨0x77, 0x00, 0x00, 0xFF, 0xF001, 0x34⟩, [], 3) := by decide

/-- U1: `LAX $80` (95_test_vectors.md). -/
theorem test_U1 :
    after [(0x000, 0xA7), (0x001, 0x80)] [(0x00, 0x8F)] ⟨0x00, 0x00, 0x00, 0xFF, 0xF000, 0x34⟩ [] =
      some (⟨0x8F, 0x8F, 0x00, 0xFF, 0xF002, 0xB4⟩, [], 3) := by decide

set_option maxRecDepth 4000 in
/-- U4: `SAX ($80,X)` (95_test_vectors.md). -/
theorem test_U4 :
    after [(0x000, 0x83), (0x001, 0x80)] [(0x02, 0x90), (0x03, 0x00)] ⟨0xFF, 0x02, 0x00, 0xFF, 0xF000, 0x34⟩ [0x10] =
      some (⟨0xFF, 0x02, 0x00, 0xFF, 0xF002, 0x34⟩, [0x02], 6) := by decide

/-- U5: `DCP $80` (95_test_vectors.md). -/
theorem test_U5 :
    after [(0x000, 0xC7), (0x001, 0x80)] [(0x00, 0x11)] ⟨0x10, 0x00, 0x00, 0xFF, 0xF000, 0x34⟩ [0x00] =
      some (⟨0x10, 0x00, 0x00, 0xFF, 0xF002, 0x37⟩, [0x10], 5) := by decide

set_option maxRecDepth 4000 in
/-- U6: `DCP $00F0,Y` (95_test_vectors.md). -/
theorem test_U6 :
    after [(0x000, 0xDB), (0x001, 0xF0), (0x002, 0x00)] [(0x75, 0x00)] ⟨0x00, 0x00, 0x05, 0xFF, 0xF000, 0x34⟩ [0x75] =
      some (⟨0x00, 0x00, 0x05, 0xFF, 0xF003, 0x34⟩, [0xFF], 7) := by decide

/-- U7: `ISC $80` (95_test_vectors.md). -/
theorem test_U7 :
    after [(0x000, 0xE7), (0x001, 0x80)] [(0x00, 0x0F)] ⟨0x10, 0x00, 0x00, 0xFF, 0xF000, 0x35⟩ [0x00] =
      some (⟨0x00, 0x00, 0x00, 0xFF, 0xF002, 0x37⟩, [0x10], 5) := by decide

/-- U8: `SLO $80` (95_test_vectors.md). -/
theorem test_U8 :
    after [(0x000, 0x07), (0x001, 0x80)] [(0x00, 0xC0)] ⟨0x01, 0x00, 0x00, 0xFF, 0xF000, 0x34⟩ [0x00] =
      some (⟨0x81, 0x00, 0x00, 0xFF, 0xF002, 0xB5⟩, [0x80], 5) := by decide

/-- U9: `RLA $80` (95_test_vectors.md). -/
theorem test_U9 :
    after [(0x000, 0x27), (0x001, 0x80)] [(0x00, 0x40)] ⟨0xFF, 0x00, 0x00, 0xFF, 0xF000, 0x35⟩ [0x00] =
      some (⟨0x81, 0x00, 0x00, 0xFF, 0xF002, 0xB4⟩, [0x81], 5) := by decide

/-- U10: `SRE $80` (95_test_vectors.md). -/
theorem test_U10 :
    after [(0x000, 0x47), (0x001, 0x80)] [(0x00, 0x03)] ⟨0xFF, 0x00, 0x00, 0xFF, 0xF000, 0x34⟩ [0x00] =
      some (⟨0xFE, 0x00, 0x00, 0xFF, 0xF002, 0xB5⟩, [0x01], 5) := by decide

set_option maxRecDepth 4000 in
/-- U12: `RRA ($80),Y` (95_test_vectors.md). -/
theorem test_U12 :
    after [(0x000, 0x73), (0x001, 0x80)] [(0x00, 0x90), (0x01, 0x00), (0x10, 0x03)] ⟨0x01, 0x00, 0x00, 0xFF, 0xF000,
      0x34⟩ [0x10] =
      some (⟨0x03, 0x00, 0x00, 0xFF, 0xF002, 0x34⟩, [0x01], 8) := by decide

/-- U13: `ANC #$80` (95_test_vectors.md). -/
theorem test_U13 :
    after [(0x000, 0x0B), (0x001, 0x80)] [] ⟨0xFF, 0x00, 0x00, 0xFF, 0xF000, 0x34⟩ [] =
      some (⟨0x80, 0x00, 0x00, 0xFF, 0xF002, 0xB5⟩, [], 2) := by decide

/-- U15: `ALR #$03` (95_test_vectors.md). -/
theorem test_U15 :
    after [(0x000, 0x4B), (0x001, 0x03)] [] ⟨0xFF, 0x00, 0x00, 0xFF, 0xF000, 0x34⟩ [] =
      some (⟨0x01, 0x00, 0x00, 0xFF, 0xF002, 0x35⟩, [], 2) := by decide

/-- U16: `ARR #$FF` (95_test_vectors.md). -/
theorem test_U16 :
    after [(0x000, 0x6B), (0x001, 0xFF)] [] ⟨0xC0, 0x00, 0x00, 0xFF, 0xF000, 0x35⟩ [] =
      some (⟨0xE0, 0x00, 0x00, 0xFF, 0xF002, 0xB5⟩, [], 2) := by decide

/-- U17: `ARR #$FF` (95_test_vectors.md). -/
theorem test_U17 :
    after [(0x000, 0x6B), (0x001, 0xFF)] [] ⟨0x40, 0x00, 0x00, 0xFF, 0xF000, 0x34⟩ [] =
      some (⟨0x20, 0x00, 0x00, 0xFF, 0xF002, 0x74⟩, [], 2) := by decide

/-- U19: `SBX #$10` (95_test_vectors.md). -/
theorem test_U19 :
    after [(0x000, 0xCB), (0x001, 0x10)] [] ⟨0xF0, 0x3F, 0x00, 0xFF, 0xF000, 0x34⟩ [] =
      some (⟨0xF0, 0x20, 0x00, 0xFF, 0xF002, 0x35⟩, [], 2) := by decide

/-- U21: `SBC #$01 (EB)` (95_test_vectors.md). -/
theorem test_U21 :
    after [(0x000, 0xEB), (0x001, 0x01)] [] ⟨0x03, 0x00, 0x00, 0xFF, 0xF000, 0x35⟩ [] =
      some (⟨0x02, 0x00, 0x00, 0xFF, 0xF002, 0x35⟩, [], 2) := by decide

/-- U22: `LAS $F0F0,Y` (95_test_vectors.md). -/
theorem test_U22 :
    after [(0x000, 0xBB), (0x001, 0xF0), (0x002, 0xF0), (0x0F1, 0x3C)] [] ⟨0x00, 0x00, 0x01, 0xF5, 0xF000, 0x34⟩ [] =
      some (⟨0x34, 0x34, 0x01, 0x34, 0xF003, 0x34⟩, [], 4) := by decide

/-- U23: `NOP $F0F0,X (page crossed)` (95_test_vectors.md). -/
theorem test_U23 :
    after [(0x000, 0x1C), (0x001, 0xF0), (0x002, 0xF0)] [] ⟨0x00, 0x20, 0x00, 0xFF, 0xF000, 0x34⟩ [] =
      some (⟨0x00, 0x20, 0x00, 0xFF, 0xF003, 0x34⟩, [], 5) := by decide

/-- U27: `JAM (02)` (95_test_vectors.md). -/
theorem test_U27 :
    after [(0x000, 0x02)] [] ⟨0x00, 0x00, 0x00, 0xFF, 0xF000, 0x34⟩ [] =
      some (⟨0x00, 0x00, 0x00, 0xFF, 0xF001, 0x34⟩, [], 1) := by decide

/-- U18: ARR in decimal mode is refused; U28, U29: so are the unstable opcodes. -/
theorem test_refused :
    [step (flat [(0x000, 0x6B), (0x001, 0xFF)] [] ⟨0x40, 0, 0, 0xFF, 0xF000, 0x3C⟩),
      step (flat [(0x000, 0x8B)] [] ⟨0, 0, 0, 0xFF, 0xF000, 0x34⟩),
      step (flat [(0x000, 0x93), (0x001, 0x80)] [] ⟨0, 0, 0, 0xFF, 0xF000, 0x34⟩)].map
        (fun r => match r with | .refused e => some e | _ => none) =
      [some .arrDecimal, some .unstableOpcode, some .unstableOpcode] := by decide

/-- X1: the reset sequence. -/
theorem test_X1 :
    (match step { flat [(0xFFD, 0xF0)] [] ⟨0, 0, 0, 0x00, 0x1234, 0x38⟩ with
        cpu := { (flat [(0xFFD, 0xF0)] [] ⟨0, 0, 0, 0x00, 0x1234, 0x38⟩).cpu with resetting := true } } with
      | .next t => some (t.cpu.pc, t.cpu.sp, t.cpu.status, t.cpu.resetting, t.riot.steps)
      | _ => none) = some (0xF000, 0xFD, 0x3C, false, 7) := by decide

/-! ### One step of the ARM -/

/-- The block with a coprocessor whose program goes on at `x` with the halfword `w`. -/
def thumb (w x : Nat) (regs : List (AnyReg × Word)) (f : ArmFlags) (mem : List (Nat × Nat × Nat)) : State :=
  let s : State := { State.reset with mapper := { State.reset.mapper with variant := .coproc } }
  let a : Arm := regs.foldl (fun a r => a.setReg r.1 r.2) { s.arm with r := Vector.replicate 16 0 }
  let a := a.atPC (BitVec.ofNat 32 x)
  let m := Memory.writeLE [] x 2 w
  { s with arm := { a with
      n := f.n, z := f.z, c := f.c, v := f.v, yield := .running
      progMem := (mem.filter (fun k => k.1 < 0x8000)).foldl (fun m k => m.writeLE k.1 k.2.1 k.2.2) m
      varMem := (mem.filter (fun k => 0x8000 ≤ k.1)).foldl (fun m k => m.writeLE k.1 k.2.1 k.2.2) [] } }

/-- Registers, memory, flags, the next instruction's address and the cycles after one step. -/
def afterThumb (w x : Nat) (regs : List (AnyReg × Word)) (f : ArmFlags) (mem : List (Nat × Nat × Nat))
    (out : List AnyReg) (cells : List (Nat × Nat)) : Option (List Word × List Nat × ArmFlags × Word × CycleCounts) :=
  match step (thumb w x regs f mem) with
  | .next t =>
    some (out.map t.arm.reg, cells.map (fun c => t.arm.varMem.readLE c.1 c.2), t.armFlags, t.arm.executingPC, t.arm.instr)
  | _ => none

/-- T1: `LSL r2, r1, #4` (95_test_vectors.md). -/
theorem test_T1 :
    afterThumb 0x010A 0x100 [(1, 0x10000001), (13, 0x40001000)] ⟨false, false, false, false⟩ []
        [2] [] =
      some ([0x10], [], ⟨false, false, true, false⟩, 0x102, ⟨0, 1, 0⟩) := by
  decide

/-- T4: `LSR r0, r1, #32 (off5=0)` (95_test_vectors.md). -/
theorem test_T4 :
    afterThumb 0x0808 0x100 [(1, 0x80000000), (13, 0x40001000)] ⟨false, false, false, false⟩ []
        [0] [] =
      some ([0x0], [], ⟨false, true, true, false⟩, 0x102, ⟨0, 1, 0⟩) := by
  decide

/-- T6: `ASR r0, r1, #32 (off5=0)` (95_test_vectors.md). -/
theorem test_T6 :
    afterThumb 0x1008 0x100 [(1, 0x80000000), (13, 0x40001000)] ⟨false, false, false, false⟩ []
        [0] [] =
      some ([0xFFFFFFFF], [], ⟨true, false, true, false⟩, 0x102, ⟨0, 1, 0⟩) := by
  decide

/-- T8: `ADD r0, r0, r1` (95_test_vectors.md). -/
theorem test_T8 :
    afterThumb 0x1840 0x100 [(0, 0x7FFFFFFF), (1, 0x1), (13, 0x40001000)] ⟨false, false, false, false⟩ []
        [0] [] =
      some ([0x80000000], [], ⟨true, false, false, true⟩, 0x102, ⟨0, 1, 0⟩) := by
  decide

/-- T10: `SUB r0, r0, r1` (95_test_vectors.md). -/
theorem test_T10 :
    afterThumb 0x1A40 0x100 [(0, 0x80000000), (1, 0x1), (13, 0x40001000)] ⟨false, false, false, false⟩ []
        [0] [] =
      some ([0x7FFFFFFF], [], ⟨false, false, true, true⟩, 0x102, ⟨0, 1, 0⟩) := by
  decide

/-- T11: `ADD r1, r0, #1` (95_test_vectors.md). -/
theorem test_T11 :
    afterThumb 0x1C41 0x100 [(0, 0x9), (13, 0x40001000)] ⟨false, false, false, false⟩ []
        [1] [] =
      some ([0xA], [], ⟨false, false, false, false⟩, 0x102, ⟨0, 1, 0⟩) := by
  decide

/-- T12: `SUB r1, r1, #1` (95_test_vectors.md). -/
theorem test_T12 :
    afterThumb 0x1E49 0x100 [(1, 0x1), (13, 0x40001000)] ⟨false, false, false, false⟩ []
        [1] [] =
      some ([0x0], [], ⟨false, true, true, false⟩, 0x102, ⟨0, 1, 0⟩) := by
  decide

/-- T13: `MOV r0, #5` (95_test_vectors.md). -/
theorem test_T13 :
    afterThumb 0x2005 0x100 [(13, 0x40001000)] ⟨false, false, true, true⟩ []
        [0] [] =
      some ([0x5], [], ⟨false, false, true, true⟩, 0x102, ⟨0, 1, 0⟩) := by
  decide

/-- T16: `CMP r0, #5` (95_test_vectors.md). -/
theorem test_T16 :
    afterThumb 0x2805 0x100 [(0, 0x4), (13, 0x40001000)] ⟨false, false, false, false⟩ []
        [0] [] =
      some ([0x4], [], ⟨true, false, false, false⟩, 0x102, ⟨0, 1, 0⟩) := by
  decide

/-- T17: `ADD r0, #255` (95_test_vectors.md). -/
theorem test_T17 :
    afterThumb 0x30FF 0x100 [(0, 0xFFFFFF01), (13, 0x40001000)] ⟨false, false, false, false⟩ []
        [0] [] =
      some ([0x0], [], ⟨false, true, true, false⟩, 0x102, ⟨0, 1, 0⟩) := by
  decide

/-- T18: `SUB r0, #1` (95_test_vectors.md). -/
theorem test_T18 :
    afterThumb 0x3801 0x100 [(0, 0x0), (13, 0x40001000)] ⟨false, false, false, false⟩ []
        [0] [] =
      some ([0xFFFFFFFF], [], ⟨true, false, false, false⟩, 0x102, ⟨0, 1, 0⟩) := by
  decide

/-- T19: `AND r0, r1` (95_test_vectors.md). -/
theorem test_T19 :
    afterThumb 0x4008 0x100 [(0, 0xF0F0F0F0), (1, 0xF0F0F0F), (13, 0x40001000)] ⟨false, false, false, false⟩ []
        [0] [] =
      some ([0x0], [], ⟨false, true, false, false⟩, 0x102, ⟨0, 1, 0⟩) := by
  decide

/-- T20: `EOR r0, r1` (95_test_vectors.md). -/
theorem test_T20 :
    afterThumb 0x4048 0x100 [(0, 0xFFFFFFFF), (1, 0x7FFFFFFF), (13, 0x40001000)] ⟨false, false, false, false⟩ []
        [0] [] =
      some ([0x80000000], [], ⟨true, false, false, false⟩, 0x102, ⟨0, 1, 0⟩) := by
  decide

/-- T22: `LSL r0, r1 (by 33)` (95_test_vectors.md). -/
theorem test_T22 :
    afterThumb 0x4088 0x100 [(0, 0xFFFFFFFF), (1, 0x21), (13, 0x40001000)] ⟨false, false, true, false⟩ []
        [0] [] =
      some ([0x0], [], ⟨false, true, false, false⟩, 0x102, ⟨0, 1, 1⟩) := by
  decide

/-- T24: `LSR r0, r1 (by 32)` (95_test_vectors.md). -/
theorem test_T24 :
    afterThumb 0x40C8 0x100 [(0, 0x80000000), (1, 0x20), (13, 0x40001000)] ⟨false, false, false, false⟩ []
        [0] [] =
      some ([0x0], [], ⟨false, true, true, false⟩, 0x102, ⟨0, 1, 1⟩) := by
  decide

/-- T25: `ASR r0, r1 (by 40)` (95_test_vectors.md). -/
theorem test_T25 :
    afterThumb 0x4108 0x100 [(0, 0x80000000), (1, 0x28), (13, 0x40001000)] ⟨false, false, false, false⟩ []
        [0] [] =
      some ([0xFFFFFFFF], [], ⟨true, false, true, false⟩, 0x102, ⟨0, 1, 1⟩) := by
  decide

/-- T26: `ADC r0, r1` (95_test_vectors.md). -/
theorem test_T26 :
    afterThumb 0x4148 0x100 [(0, 0xFFFFFFFF), (1, 0x0), (13, 0x40001000)] ⟨false, false, true, false⟩ []
        [0] [] =
      some ([0x0], [], ⟨false, true, true, false⟩, 0x102, ⟨0, 1, 0⟩) := by
  decide

/-- T27: `SBC r0, r1` (95_test_vectors.md). -/
theorem test_T27 :
    afterThumb 0x4188 0x100 [(0, 0x5), (1, 0x5), (13, 0x40001000)] ⟨false, false, false, false⟩ []
        [0] [] =
      some ([0xFFFFFFFF], [], ⟨true, false, false, false⟩, 0x102, ⟨0, 1, 0⟩) := by
  decide

/-- T28: `ROR r0, r1 (by 4)` (95_test_vectors.md). -/
theorem test_T28 :
    afterThumb 0x41C8 0x100 [(0, 0xF), (1, 0x4), (13, 0x40001000)] ⟨false, false, false, false⟩ []
        [0] [] =
      some ([0xF0000000], [], ⟨true, false, true, false⟩, 0x102, ⟨0, 1, 1⟩) := by
  decide

/-- T30: `TST r0, r1` (95_test_vectors.md). -/
theorem test_T30 :
    afterThumb 0x4208 0x100 [(0, 0x1), (1, 0x2), (13, 0x40001000)] ⟨false, false, false, false⟩ []
        [0] [] =
      some ([0x1], [], ⟨false, true, false, false⟩, 0x102, ⟨0, 1, 0⟩) := by
  decide

/-- T31: `NEG r0, r0` (95_test_vectors.md). -/
theorem test_T31 :
    afterThumb 0x4240 0x100 [(0, 0x80000000), (13, 0x40001000)] ⟨false, false, false, false⟩ []
        [0] [] =
      some ([0x80000000], [], ⟨true, false, false, true⟩, 0x102, ⟨0, 1, 0⟩) := by
  decide

/-- T33: `CMP r0, r1` (95_test_vectors.md). -/
theorem test_T33 :
    afterThumb 0x4288 0x100 [(0, 0x1), (1, 0x2), (13, 0x40001000)] ⟨false, false, false, false⟩ []
        [0] [] =
      some ([0x1], [], ⟨true, false, false, false⟩, 0x102, ⟨0, 1, 0⟩) := by
  decide

/-- T34: `CMN r0, r1` (95_test_vectors.md). -/
theorem test_T34 :
    afterThumb 0x42C8 0x100 [(0, 0xFFFFFFFF), (1, 0x1), (13, 0x40001000)] ⟨false, false, false, false⟩ []
        [0] [] =
      some ([0xFFFFFFFF], [], ⟨false, true, true, false⟩, 0x102, ⟨0, 1, 0⟩) := by
  decide

/-- T35: `ORR r0, r1` (95_test_vectors.md). -/
theorem test_T35 :
    afterThumb 0x4308 0x100 [(0, 0x80000000), (1, 0x1), (13, 0x40001000)] ⟨false, false, false, false⟩ []
        [0] [] =
      some ([0x80000001], [], ⟨true, false, false, false⟩, 0x102, ⟨0, 1, 0⟩) := by
  decide

/-- T39: `BIC r0, r1` (95_test_vectors.md). -/
theorem test_T39 :
    afterThumb 0x4388 0x100 [(0, 0xFFFFFFFF), (1, 0xFFFF), (13, 0x40001000)] ⟨false, false, false, false⟩ []
        [0] [] =
      some ([0xFFFF0000], [], ⟨true, false, false, false⟩, 0x102, ⟨0, 1, 0⟩) := by
  decide

/-- T40: `MVN r0, r1` (95_test_vectors.md). -/
theorem test_T40 :
    afterThumb 0x43C8 0x100 [(1, 0xFFFFFFFF), (13, 0x40001000)] ⟨false, false, false, false⟩ []
        [0] [] =
      some ([0x0], [], ⟨false, true, false, false⟩, 0x102, ⟨0, 1, 0⟩) := by
  decide

/-- T41: `ADD r8, r1 (high)` (95_test_vectors.md). -/
theorem test_T41 :
    afterThumb 0x4488 0x100 [(1, 0xFFFFFFFF), (8, 0x10), (13, 0x40001000)] ⟨false, true, false, false⟩ []
        [8] [] =
      some ([0xF], [], ⟨false, true, false, false⟩, 0x102, ⟨0, 1, 0⟩) := by
  decide

/-- T42: `ADD r0, pc (high)` (95_test_vectors.md). -/
theorem test_T42 :
    afterThumb 0x4478 0x100 [(0, 0x1), (13, 0x40001000)] ⟨false, false, false, false⟩ []
        [0] [] =
      some ([0x105], [], ⟨false, false, false, false⟩, 0x102, ⟨0, 1, 0⟩) := by
  decide

/-- T43: `CMP r8, r1 (high)` (95_test_vectors.md). -/
theorem test_T43 :
    afterThumb 0x4588 0x100 [(1, 0x1), (8, 0x1), (13, 0x40001000)] ⟨false, false, false, false⟩ []
        [8] [] =
      some ([0x1], [], ⟨false, true, true, false⟩, 0x102, ⟨0, 1, 0⟩) := by
  decide

/-- T45: `MOV pc, lr` (95_test_vectors.md). -/
theorem test_T45 :
    afterThumb 0x46F7 0x100 [(13, 0x40001000), (14, 0x201)] ⟨false, false, false, false⟩ []
        [14] [] =
      some ([0x201], [], ⟨false, false, false, false⟩, 0x200, ⟨1, 2, 0⟩) := by
  decide

/-- T46: `BX lr` (95_test_vectors.md). -/
theorem test_T46 :
    afterThumb 0x4770 0x100 [(13, 0x40001000), (14, 0x201)] ⟨false, false, false, false⟩ []
        [14] [] =
      some ([0x201], [], ⟨false, false, false, false⟩, 0x200, ⟨1, 2, 0⟩) := by
  decide

/-- T49: `LDR r0, [pc, #4] (X not word aligned)` (95_test_vectors.md). -/
theorem test_T49 :
    afterThumb 0x4801 0x102 [(13, 0x40001000)] ⟨false, false, false, false⟩ [(0x108, 4, 0xCAFEBABE)]
        [0] [] =
      some ([0xCAFEBABE], [], ⟨false, false, false, false⟩, 0x104, ⟨1, 1, 1⟩) := by
  decide

/-- T50: `STR r1, [r0, r2]` (95_test_vectors.md). -/
theorem test_T50 :
    afterThumb 0x5081 0x100 [(0, 0x40000000), (1, 0x11223344), (2, 0x8), (13, 0x40001000)] ⟨false, false, false,
      false⟩ []
        [] [(0x40000008, 4), (0x40000008, 1), (0x4000000B, 1)] =
      some ([], [0x11223344, 0x44, 0x11], ⟨false, false, false, false⟩, 0x102, ⟨2, 0, 0⟩) := by
  decide

/-- T51: `STRB r1, [r0, r2]` (95_test_vectors.md). -/
theorem test_T51 :
    afterThumb 0x5481 0x100 [(0, 0x40000000), (1, 0x11223344), (2, 0x1), (13, 0x40001000)] ⟨false, false, false,
      false⟩ [(0x40000000, 4, 0xFFFFFFFF)]
        [] [(0x40000000, 4)] =
      some ([], [0xFFFF44FF], ⟨false, false, false, false⟩, 0x102, ⟨2, 0, 0⟩) := by
  decide

/-- T52: `LDSB r1, [r0, r2]` (95_test_vectors.md). -/
theorem test_T52 :
    afterThumb 0x5681 0x100 [(0, 0x40000000), (2, 0x0), (13, 0x40001000)] ⟨false, false, false, false⟩ [(0x40000000,
      1, 0x80)]
        [1] [] =
      some ([0xFFFFFF80], [], ⟨false, false, false, false⟩, 0x102, ⟨1, 1, 1⟩) := by
  decide

/-- T53: `LDSH r1, [r0, r2]` (95_test_vectors.md). -/
theorem test_T53 :
    afterThumb 0x5E81 0x100 [(0, 0x40000000), (2, 0x2), (13, 0x40001000)] ⟨false, false, false, false⟩ [(0x40000002,
      2, 0x8001)]
        [1] [] =
      some ([0xFFFF8001], [], ⟨false, false, false, false⟩, 0x102, ⟨1, 1, 1⟩) := by
  decide

/-- T54: `LDRH r1, [r0, r2]` (95_test_vectors.md). -/
theorem test_T54 :
    afterThumb 0x5A81 0x100 [(0, 0x40000000), (2, 0x2), (13, 0x40001000)] ⟨false, false, false, false⟩ [(0x40000002,
      2, 0x8001)]
        [1] [] =
      some ([0x8001], [], ⟨false, false, false, false⟩, 0x102, ⟨1, 1, 1⟩) := by
  decide

/-- T55: `LDR r2, [r0, #4]` (95_test_vectors.md). -/
theorem test_T55 :
    afterThumb 0x6842 0x100 [(0, 0x40000000), (13, 0x40001000)] ⟨false, false, false, false⟩ [(0x40000004, 4,
      0x1020304)]
        [2] [] =
      some ([0x1020304], [], ⟨false, false, false, false⟩, 0x102, ⟨1, 1, 1⟩) := by
  decide

/-- T56: `LDR r2, [r0, #4] (misaligned)` (95_test_vectors.md). -/
theorem test_T56 :
    afterThumb 0x6842 0x100 [(0, 0x40000001), (2, 0x55555555), (13, 0x40001000)] ⟨false, false, false,
      false⟩ [(0x40000004, 4, 0x1020304)]
        [2] [] =
      some ([0x0], [], ⟨false, false, false, false⟩, 0x102, ⟨1, 1, 1⟩) := by
  decide

/-- T57: `LDRB r1, [r0, #3]` (95_test_vectors.md). -/
theorem test_T57 :
    afterThumb 0x78C1 0x100 [(0, 0x40000004), (13, 0x40001000)] ⟨false, false, false, false⟩ [(0x40000004, 4,
      0x1020304)]
        [1] [] =
      some ([0x1], [], ⟨false, false, false, false⟩, 0x102, ⟨1, 1, 1⟩) := by
  decide

/-- T58: `STRH r1, [r0, #2]` (95_test_vectors.md). -/
theorem test_T58 :
    afterThumb 0x8041 0x100 [(0, 0x40000000), (1, 0xAABBCCDD), (13, 0x40001000)] ⟨false, false, false, false⟩ []
        [] [(0x40000000, 4)] =
      some ([], [0xCCDD0000], ⟨false, false, false, false⟩, 0x102, ⟨2, 0, 0⟩) := by
  decide

/-- T59: `STR r0, [sp, #4]` (95_test_vectors.md). -/
theorem test_T59 :
    afterThumb 0x9001 0x100 [(0, 0xDEADBEEF), (13, 0x40000FF0)] ⟨false, false, false, false⟩ []
        [] [(0x40000FF4, 4)] =
      some ([], [0xDEADBEEF], ⟨false, false, false, false⟩, 0x102, ⟨2, 0, 0⟩) := by
  decide

/-- T60: `ADD r0, pc, #8` (95_test_vectors.md). -/
theorem test_T60 :
    afterThumb 0xA002 0x102 [(13, 0x40001000)] ⟨false, false, false, false⟩ []
        [0] [] =
      some ([0x10C], [], ⟨false, false, false, false⟩, 0x104, ⟨0, 1, 0⟩) := by
  decide

/-- T61: `ADD r0, sp, #8` (95_test_vectors.md). -/
theorem test_T61 :
    afterThumb 0xA802 0x100 [(13, 0x40000FF0)] ⟨false, false, false, false⟩ []
        [0] [] =
      some ([0x40000FF8], [], ⟨false, false, false, false⟩, 0x102, ⟨0, 1, 0⟩) := by
  decide

/-- T62: `SUB sp, #8` (95_test_vectors.md). -/
theorem test_T62 :
    afterThumb 0xB082 0x100 [(13, 0x40001000)] ⟨false, false, false, false⟩ []
        [13] [] =
      some ([0x40000FF8], [], ⟨false, false, false, false⟩, 0x102, ⟨0, 1, 0⟩) := by
  decide

/-- T64: `PUSH {r4, lr}` (95_test_vectors.md). -/
theorem test_T64 :
    afterThumb 0xB510 0x100 [(4, 0x44), (13, 0x40001000), (14, 0x105)] ⟨false, false, false, false⟩ []
        [13] [(0x40000FF8, 4), (0x40000FFC, 4)] =
      some ([0x40000FF8], [0x44, 0x105], ⟨false, false, false, false⟩, 0x102, ⟨2, 1, 0⟩) := by
  decide

/-- T65: `POP {r4, pc}` (95_test_vectors.md). -/
theorem test_T65 :
    afterThumb 0xBD10 0x100 [(13, 0x40000FF8)] ⟨false, false, false, false⟩ [(0x40000FF8, 4, 0x44), (0x40000FFC, 4,
      0x105)]
        [4, 13] [] =
      some ([0x44, 0x40001000], [], ⟨false, false, false, false⟩, 0x104, ⟨2, 3, 1⟩) := by
  decide

/-- T66: `STMIA r0!, {r1, r2}` (95_test_vectors.md). -/
theorem test_T66 :
    afterThumb 0xC006 0x100 [(0, 0x40000020), (1, 0x11), (2, 0x22), (13, 0x40001000)] ⟨false, false, false, false⟩ []
        [0] [(0x40000020, 4), (0x40000024, 4)] =
      some ([0x40000028], [0x11, 0x22], ⟨false, false, false, false⟩, 0x102, ⟨2, 1, 0⟩) := by
  decide

/-- T67: `LDMIA r0!, {r0, r1}` (95_test_vectors.md). -/
theorem test_T67 :
    afterThumb 0xC803 0x100 [(0, 0x40000020), (13, 0x40001000)] ⟨false, false, false, false⟩ [(0x40000020, 4, 0xAA),
      (0x40000024, 4, 0xBB)]
        [0, 1] [] =
      some ([0xAA, 0xBB], [], ⟨false, false, false, false⟩, 0x102, ⟨1, 2, 1⟩) := by
  decide

/-- T68: `BNE (taken)` (95_test_vectors.md). -/
theorem test_T68 :
    afterThumb 0xD1FD 0x100 [(13, 0x40001000)] ⟨false, false, false, false⟩ []
        [] [] =
      some ([], [], ⟨false, false, false, false⟩, 0xFE, ⟨1, 2, 0⟩) := by
  decide

/-- T70: `BGT +4` (95_test_vectors.md). -/
theorem test_T70 :
    afterThumb 0xDC02 0x100 [(13, 0x40001000)] ⟨true, false, false, true⟩ []
        [] [] =
      some ([], [], ⟨true, false, false, true⟩, 0x108, ⟨1, 2, 0⟩) := by
  decide

/-- T71: `BLS +4` (95_test_vectors.md). -/
theorem test_T71 :
    afterThumb 0xD902 0x100 [(13, 0x40001000)] ⟨false, false, true, false⟩ []
        [] [] =
      some ([], [], ⟨false, false, true, false⟩, 0x102, ⟨0, 1, 0⟩) := by
  decide

/-- T74: `B .` (95_test_vectors.md). -/
theorem test_T74 :
    afterThumb 0xE7FE 0x100 [(13, 0x40001000)] ⟨false, false, false, false⟩ []
        [] [] =
      some ([], [], ⟨false, false, false, false⟩, 0x100, ⟨1, 2, 0⟩) := by
  decide

/-- T47, T73, T79: the halts. -/
theorem test_halts :
    [step (thumb 0x4700 0x100 [(0, 0x200)] ⟨false, false, false, false⟩ []),
      step (thumb 0xDF01 0x100 [] ⟨false, false, false, false⟩ []),
      step (thumb 0xE800 0x100 [] ⟨false, false, false, false⟩ [])].map
        (fun r => match r with | .fault e => some e | _ => none) =
      [some .armStateNotSupported, some .unhandledOpcodeClass, some .unhandledOpcodeClass] := by decide

/-- T56: the misaligned load is logged. -/
theorem test_T56_logged :
    (match step (thumb 0x6842 0x100 [(0, 0x40000001)] ⟨false, false, false, false⟩ []) with
      | .next t => t.log
      | _ => []) = [.armBusError 0x40000005 true 0x100 false] := by decide

/-- T36: MUL, but for C. -/
theorem test_T36 :
    (match step (thumb 0x4348 0x100 [(0, 7), (1, 6)] ⟨false, false, false, false⟩ []) with
      | .next t => some (t.arm.reg 0, t.arm.n, t.arm.z, t.arm.v, t.arm.instr)
      | _ => none) = some (0x2A, false, false, false, ⟨0, 1, 1⟩) := by decide

/-- R501: `BX lr` to the reset LR ends the program. -/
theorem test_program_ends :
    (match step (thumb 0x4770 0x100 [(14, 0x00FFFFFF)] ⟨false, false, false, false⟩ []) with
      | .next t => some (t.arm.yield, t.mapper.debt == 3 * t.params.unit)
      | _ => none) = some (.programEnded, true) := by decide

/-! ### The devices -/

/-- The TIA at a horizontal clock, after reset. -/
def tiaAt (hclk : Nat) (blank latch : Bool) : Tia :=
  { Tia.reset with
    ctr := ⟨hclk / 4, match hclk % 4 with | 0 => .risingPhi1 | 1 => .fallingPhi1 | 2 => .risingPhi2 | _ => .fallingPhi2⟩
    hblank := blank, hmoveLatch := latch }

/-- The TIA with a value in NUSIZ0. -/
def withNusiz0 (v : BitVec 3) (t : Tia) : Tia := { t with p0 := { t.p0 with nusiz := v } }

/-- `resetPixel` of player 0 after a RESP0. -/
def resp0 (t : Tia) : Option (Nat × List Event) :=
  match t.write {} 0x10 0x00 with
  | .ok u => some (u.p0.sprite.resetPixel, u.p0.sprite.events)
  | _ => none

/-- E1 and E5: the reset pixel, and the delay of the event. -/
theorem test_E1_E5 :
    [resp0 (withNusiz0 7 (tiaAt 10 true false)), resp0 (tiaAt 224 false false), resp0 (withNusiz0 7 (tiaAt 227 false false)),
      resp0 (withNusiz0 5 (tiaAt 67 true true)), resp0 (tiaAt 75 true true)] =
      [some (13, [⟨2, .resetPos .p0⟩]), some (0, [⟨4, .resetPos .p0⟩]), some (4, [⟨4, .resetPos .p0⟩]),
        some (71, [⟨3, .resetPos .p0⟩]), some (78, [⟨3, .resetPos .p0⟩])] := by decide

/-- E6: NUSIZ and the additional pixel. -/
theorem test_E6 :
    [(36, 0, 0x05), (37, 5, 0x07), (37, 7, 0x03), (159, 0, 0x07), (0, 5, 0x00)].map
        (fun (q : Nat × BitVec 3 × Byte) =>
          (playerNusiz q.2.2 { Player.reset with
            nusiz := q.2.1, sprite := { Sprite.reset with resetPixel := q.1 } }).sprite.resetPixel) =
      [37, 37, 36, 0, 159] := by decide

/-- V5: the counter of length 57 wraps. -/
theorem test_V5 : Counter.tick 57 ⟨56, .fallingPhi2⟩ = ⟨0, .risingPhi1⟩ := by decide

/-- V6: the 65th live event halts. -/
theorem test_V6 :
    Tia.schedule .pf 1 (.resetPos .bl) { Tia.reset with events := List.replicate 64 ⟨1, .resetPos .bl⟩ } =
      .error (.fault .schedulerFull) := by rfl

/-- R431: SetNUSIZ above 7 halts. -/
theorem test_illegal_nusiz : Player.setNusiz Player.reset 8 = .error (.fault .illegalNusiz) := by rfl

/-- E3: the first call of `vcsWrite3` injects the store opcode. -/
theorem test_E3_first :
    (match State.shimTick (.read 0x1000) { thumb 0 0 [] ⟨false, false, false, false⟩ [] with
        shim := { Shim.reset with running := ⟨some .vcsWrite3, 0, #v[0x02, 0x00, 0, 0]⟩ } } with
      | .ok x => some (x.1, x.2.shim.expectedAddr)
      | _ => none) = some (some 0x85, 0x1001) := by decide

/-- R586: an SP-relative load, SP a multiple of 4. -/
theorem test_sp_relative_load :
    afterThumb 0x9801 0x100 [(13, 0x40000800)] ⟨false, false, false, false⟩ [(0x40000804, 4, 0x11223344)] [0, 13] [] =
      some ([0x11223344, 0x40000800], [], ⟨false, false, false, false⟩, 0x102, ⟨1, 1, 1⟩) := by decide

/-- R585, R586, R490: with an SP that is no multiple of 4 the store is discarded and the load gives 0. -/
theorem test_sp_relative_misaligned :
    afterThumb 0x9001 0x100 [(0, 0xAABBCCDD), (13, 0x40000802)] ⟨false, false, false, false⟩ [] [13]
        [(0x40000804, 4), (0x40000806, 4)] =
      some ([0x40000802], [0, 0], ⟨false, false, false, false⟩, 0x102, ⟨2, 0, 0⟩) ∧
    afterThumb 0x9801 0x100 [(0, 0x55555555), (13, 0x40000802)] ⟨false, false, false, false⟩
        [(0x40000804, 4, 0x11223344)] [0, 13] [] =
      some ([0, 0x40000802], [], ⟨false, false, false, false⟩, 0x102, ⟨1, 1, 1⟩) := ⟨by decide, by decide⟩

/-- R56, R700: a byte the program wrote over its own image is gone after a hard reset. -/
theorem test_reset_restores_image :
    let s : State := { State.reset with
      params := { programWritable := true }
      mapper := { State.reset.mapper with variant := .coproc, armImage := [(0x10, 0x70)] }
      arm := { State.reset.arm with progMem := [(0x10, 0x70)] } }
    (s.armWrite 0x10 1 0x42).arm.progMem = [(0x10, 0x42)] ∧ (s.armWrite 0x10 1 0x42).hardReset.arm.progMem = [(0x10, 0x70)] := by
  exact ⟨by decide, rfl⟩

/-- A coprocessor cartridge whose shim runs the function 0 of this table with these registers. -/
def shimmed (steps : List ShimStep) (regs : Vector Word 4) : State :=
  { thumb 0 0 [] ⟨false, false, false, false⟩ [] with
    params := { strongArmFunctions := (.other 0, steps) :: defaultFunctions }
    shim := { Shim.reset with running := ⟨some (.other 0), 0, regs⟩ } }

/-- R623: one call injects a byte and pushes a function with arguments of its own. -/
theorem test_inject_and_push :
    (match (shimmed [{ act := .inject (.const 0xEA), andThen := .push .vcsLda2 #v[.const 0x42, .arg 1, .const 0, .const 0] }]
        #v[1, 2, 3, 4]).shimTick (.read 0x1000) with
      | .ok x => some (x.1, x.2.shim.running, x.2.shim.pushed, x.2.shim.expectedAddr)
      | _ => none) =
    some (some 0xEA, ⟨some .vcsLda2, 0, #v[0x42, 2, 0, 0]⟩, ⟨some (.other 0), 1, #v[1, 2, 3, 4]⟩, 0x1001) := by decide

/-- R628: a store at an address above the zero page is replaced, one elsewhere is not; R625: the step function sees the byte. -/
theorem test_stuff_address_and_data :
    [BusCycle.write 0x0281 0x77, .write 0x0081 0x77].map (fun k =>
      match (shimmed [{ act := .stuffWrite (.arg 0) (.const 0x99), stuff := some .cycleData }] #v[0x281, 0, 0, 0]).shimTick k
        with
      | .ok x => some (x.1, x.2.shim.busStuffData)
      | _ => none) = [some (some 0x99, 0x77), some (none, 0x00)] := by decide

/-- A word placed by `withFetchWord` is the one the step runs: `LDA #$42`. -/
theorem test_withFetchWord_6507 :
    (match step (State.reset.withFetchWord 16 0x2005) with
      | .next t => t.arm.reg 0
      | _ => 0) = 5 ∧
      (match step (State.reset.withFetchWord 24 0x0042A9) with
        | .next t => t.cpu.a
        | _ => 0) = 0x42 := by decide

/-! ### Witnesses: for each statement with hypotheses, a state and operands that meet them -/

/-- A `Flat` cartridge, SP at the top of RAM, zero-page bytes, the instruction bytes at `F000`. -/
def plain (bytes : List Byte) : State :=
  flat ((List.range bytes.length).zip bytes) [(0x00, 0x90), (0x10, 0x5A)] ⟨0x11, 0x02, 0x03, 0xFF, 0xF000, 0x34⟩

/-- The same, with undocumented opcodes refused. -/
def refusing : State := { plain [] with params := { undocPolicy := .refuseAll } }

/-- A coprocessor that runs at `0x100`. -/
def coproc (w : Nat) : State := thumb w 0x100 [(0, 0x40000000), (13, 0x40000800), (14, 0x201)] ⟨true, false, true, false⟩ []

theorem witness_RoundTrip6507 : isThumb .brk = false ∧ isThumb (.incAbx 0x34 0x12) = false := by decide
theorem witness_RoundTripThumb : isThumb (.tLslImm 1 2 3) = true ∧ isThumb (.tBlLo 0x7FF) = true := by decide
theorem witness_EncodeOfDecode : decodeThumb 0x4770 = .ok (.tBx 14) := rfl

theorem witness_StepRuns6507 :
    (plain [0xAD, 0x80, 0x00]).readyToFetch ∧ (plain [0xAD, 0x80, 0x00]).plainCart ∧
      (plain [0xAD, 0x80, 0x00]).codeByte 0xF000 = some 0xAD ∧ 1 < opLength 0xAD ∧ 2 < opLength 0xAD ∧
      (plain [0xAD, 0x80, 0x00]).codeByte 0xF001 = some 0x80 ∧
      (plain [0xAD, 0x80, 0x00]).codeByte 0xF002 = some 0x00 := by
  unfold State.readyToFetch State.plainCart; decide

theorem witness_StepRunsThumb : (coproc 0x2005).readyForThumb ∧ (coproc 0x2005).params.fetchable 0x100 = true := by
  unfold State.readyForThumb; decide

theorem witness_StepRunsThumb_undefined :
    (coproc 0xE800).readyForThumb ∧ ∃ e, decodeHalf (coproc 0xE800).armFetch.1 = .error e := by
  refine ⟨by unfold State.readyForThumb; decide, _, rfl⟩

theorem witness_StepWithoutInstruction :
    ({ plain [] with params := { armArch := .armv7m } } : State).params.armArch = .armv7m ∧
      ({ plain [] with params := { lostMotck := true } } : State).params.lostMotck = true ∧
      ({ plain [] with mapper := { (plain []).mapper with romSize := 8192 } } : State).mapper.romSize = 8192 ∧
      (plain []).configRefusal = none ∧ (plain []).plainCart ∧ (plain []).cpu.resetting = false ∧
      ({ plain [] with cpu := { (plain []).cpu with jammed := true } } : State).cpu.jammed = true := by
  unfold State.plainCart; decide

theorem witness_StepWithoutInstruction_arm :
    ((coproc 0).mapArm (fun a => { a with interruptReq := true })).configRefusal = none ∧
      (coproc 0).mapper.variant = .coproc ∧ (coproc 0).arm.yield = .running ∧ (coproc 0).arm.skipBreak = false ∧
      ({ coproc 0 with params := { breakpoints := [0x100] } } : State).params.breakpoints.contains
        (coproc 0).arm.executingPC = true := by decide

/-- A coprocessor whose program is a `BX lr` at its entry, and a jammed 6507 beside it. -/
def parked (triggered : Bool) : State :=
  let s := thumb 0x4770 0 [] ⟨false, false, false, false⟩ []
  { s with
    params := { armInstructionLimit := 4 }
    cpu := { s.cpu with jammed := true, resetting := false }
    mapper := { s.mapper with triggered := triggered }
    arm := { s.arm with yield := .programEnded } }

theorem witness_StepWithoutInstruction_phase3 :
    (parked true).configRefusal = none ∧ (parked true).mapper.variant = .coproc ∧ (parked true).arm.yield ≠ .running ∧
      (parked true).cpu.resetting = false ∧ (parked true).cpu.jammed = true ∧ 0 < (parked true).params.armPerCpuDen ∧
      70 * (parked true).params.armPerCpuDen + 0 = (parked true).mapper.armCarry + (parked true).params.armPerCpuNum ∧
      (parked false).mapper.triggered = false ∧ (parked true).mapper.triggered = true ∧
      (parked true).shim.running.fn = none ∧ (parked true).arm.yield ≠ .memoryAccessError ∧
      (parked true).arm.yield ≠ .stackError := by decide

theorem witness_StepWithoutInstruction_armRun : ∃ t, (parked true).armRun = .ok t := ⟨_, rfl⟩

theorem witness_AddressRanges :
    [rangeOf 0x1000, rangeOf 0x0000, rangeOf 0x017F, rangeOf 0x0080, rangeOf 0x0180, rangeOf 0x0280] =
      [.cartridge, .tia, .tia, .ram, .ram, .riotIo] := by decide

theorem witness_ReadCycle :
    (plain []).plainCart ∧ (plain []).tia.wsync = false ∧ inRam 0x0080 ∧ inRam 0x01FF ∧
      (0xF000 : Addr).getLsbD 12 = true ∧ (plain []).mapper.variant = .flat ∧ rangeOf (busAddr 0x0007) = .tia := by
  unfold State.plainCart inRam; decide

theorem witness_WriteCycle :
    (plain []).plainCart ∧ (plain []).room 1 ∧ (plain []).riot.ram.wf = true ∧ inRam 0x0180 ∧
      rangeOf (busAddr 0x0002) = .tia := by
  unfold State.plainCart State.room inRam; decide

theorem witness_EffectiveAddresses : (plain []).plainCart ∧ inRam (zp 0x80) ∧ inRam (zp 0xFF) := by
  unfold State.plainCart inRam; decide

/-- What the statements about 6507 instructions assume of a state. -/
theorem plain_meets : (plain []).plainCart ∧ (plain []).room 3 ∧ (plain []).riot.ram.wf = true ∧ (plain []).runsUndoc := by
  unfold State.plainCart State.room State.runsUndoc; decide

theorem witness_LoadsLogicCompares :
    (plain []).plainCart ∧ (Instr.ldaImm 1, Source.value 1, intoA) ∈ loadRows 1 2 ++ logicRows 1 2 ++ compareRows 1 2 :=
  ⟨plain_meets.1, by simp [loadRows]⟩

theorem witness_Sums : (plain []).plainCart ∧ (Instr.adcImm 1, Source.value 1, adding) ∈ sumRows 1 2 :=
  ⟨plain_meets.1, by simp [sumRows]⟩

theorem witness_UndocumentedReads :
    (plain []).runsUndoc ∧ (plain []).plainCart ∧ (Instr.alrImm 1, Source.value 1, alring) ∈ undocReadRows 1 2 ∧
      (plain []).cpu.d = false :=
  ⟨plain_meets.2.2.2, plain_meets.1, by simp [undocReadRows], by decide⟩

theorem witness_UndocumentedReads_decimal :
    ({ plain [] with cpu := { (plain []).cpu with d := true } } : State).runsUndoc ∧
      ({ plain [] with cpu := { (plain []).cpu with d := true } } : State).cpu.d = true := by
  unfold State.runsUndoc; decide

theorem witness_Stores :
    (plain []).plainCart ∧ (plain []).room 1 ∧ (plain []).riot.ram.wf = true ∧ (plain []).runsUndoc ∧
      (storeRows 0x80 0).length = 13 ∧ (undocStoreRows 0x80 0).length = 4 := by
  refine ⟨plain_meets.1, ?_, plain_meets.2.2.1, plain_meets.2.2.2, rfl, rfl⟩
  unfold State.room; decide

theorem witness_ReadModifyWrites :
    (plain []).plainCart ∧ (plain []).room 2 ∧ (plain []).riot.ram.wf = true ∧ (plain []).runsUndoc ∧
      (rmwRows 0x80 0).length = 24 ∧ (undocRmwRows 0x80 0).length = 42 := by
  refine ⟨plain_meets.1, ?_, plain_meets.2.2.1, plain_meets.2.2.2, rfl, rfl⟩
  unfold State.room; decide

theorem witness_RegisterInstructions :
    (plain []).plainCart ∧ (plain []).runsUndoc ∧ (impliedRows).length = 18 ∧ (shiftARows).length = 4 ∧
      Instr.nop1A ∈ undocNopRows := ⟨plain_meets.1, plain_meets.2.2.2, rfl, rfl, by simp [undocNopRows]⟩

theorem witness_Branches : (plain []).plainCart ∧ (branchRows 0x80).length = 8 := ⟨plain_meets.1, rfl⟩

theorem witness_Jumps :
    (plain [0x34, 0x12]).plainCart ∧ (plain [0x34, 0x12]).codeByte 0xF000 = some 0x34 ∧
      (plain [0x34, 0x12]).codeByte 0xF001 = some 0x12 := by
  unfold State.plainCart; decide

theorem witness_SubroutineCall :
    (plain []).plainCart ∧ (plain []).room 2 ∧ (plain []).riot.ram.wf = true ∧
      (plain []).codeByte (plain []).cpu.pc = some 0x00 := by
  unfold State.plainCart State.room; decide

theorem witness_SubroutineReturn :
    (plain []).plainCart ∧
      ∃ s : State, s.plainCart ∧ inRam (stackAddr (s.cpu.sp + 1)) ∧ inRam (stackAddr (s.cpu.sp + 2)) := by
  refine ⟨plain_meets.1, { plain [] with cpu := { (plain []).cpu with sp := 0xFD } }, ?_⟩
  unfold State.plainCart inRam; decide

theorem witness_BreakTrap :
    (plain []).plainCart ∧ (plain []).room 3 ∧ (plain []).riot.ram.wf = true ∧
      (plain []).codeByte 0xFFFE = some 0x00 ∧ (plain []).codeByte 0xFFFF = some 0x00 := by
  unfold State.plainCart State.room; decide

theorem witness_TrapReturn :
    ∃ s : State, s.plainCart ∧ inRam (stackAddr (s.cpu.sp + 1)) ∧ inRam (stackAddr (s.cpu.sp + 2)) ∧
      inRam (stackAddr (s.cpu.sp + 3)) := by
  refine ⟨{ plain [] with cpu := { (plain []).cpu with sp := 0xFC } }, ?_⟩
  unfold State.plainCart inRam; decide

theorem witness_StackInstructions :
    (plain []).plainCart ∧ (plain []).room 1 ∧ (plain []).riot.ram.wf = true ∧
      ∃ s : State, s.plainCart ∧ s.room 1 ∧ s.riot.ram.wf = true ∧
        rangeOf (busAddr (stackAddr s.cpu.sp)) = .tia ∧ inRam (stackAddr (0x7F + 1)) := by
  refine ⟨plain_meets.1, ?_, plain_meets.2.2.1, { plain [] with cpu := { (plain []).cpu with sp := 0x00 } }, ?_⟩
  · unfold State.room; decide
  · unfold State.plainCart State.room inRam; decide

theorem witness_Jams : (plain []).runsUndoc ∧ jamRows.length = 12 := ⟨plain_meets.2.2.2, rfl⟩

theorem witness_RefusedOpcodes :
    (plain []).runsUndoc ∧ (unstableRows 0 0).length = 7 ∧ refusing.params.undocPolicy = .refuseAll :=
  ⟨plain_meets.2.2.2, rfl, rfl⟩

theorem witness_SumValues :
    isBcd 0x00 ∧ isBcd 0x99 ∧
      ((10 : Nat) = (0x99 : Byte).toNat % 16 + (0x01 : Byte).toNat % 16 + false.toNat ∧
        (160 : Nat) = 16 * ((0x99 : Byte).toNat / 16) + 16 * ((0x01 : Byte).toNat / 16) + ((10 + 6) % 16 + 16)) ∧
      (-2 : Int) = ((0x00 : Byte).toNat % 16 : Nat) - ((0x01 : Byte).toNat % 16 : Nat) + false.toNat - 1 := by
  unfold isBcd; decide

theorem witness_CpuCycles :
    (plain []).plainCart ∧ (∃ t, exec .clc (plain []) = .next t) ∧ (Instr.clc, 1, 2, false) ∈ cycleRows 1 2 ∧
      ∃ t, exec (.bcs 0x80) (plain []) = .next t :=
  ⟨plain_meets.1, ⟨_, rfl⟩, by simp [cycleRows, cycleRows0], ⟨_, rfl⟩⟩

set_option maxRecDepth 4000 in
theorem witness_SubroutineLinkage :
    (plain []).plainCart ∧ (plain []).riot.ram.wf = true ∧ (plain []).room 2 ∧ 0x81 ≤ (plain []).cpu.sp.toNat ∧
      ∃ t, exec (.jsrAbs 0x00 0xF0) (plain []) = .next t ∧ t.plainCart := by
  refine ⟨plain_meets.1, plain_meets.2.2.1, ?_, by decide, _, rfl, ?_⟩
  · unfold State.room; decide
  · unfold State.plainCart; decide

set_option maxRecDepth 4000 in
theorem witness_TrapLinkage :
    (plain []).plainCart ∧ (plain []).riot.ram.wf = true ∧ (plain []).room 3 ∧ 0x82 ≤ (plain []).cpu.sp.toNat ∧
      ∃ t, exec .brk (plain []) = .next t ∧ t.plainCart := by
  refine ⟨plain_meets.1, plain_meets.2.2.1, plain_meets.2.1, by decide, _, rfl, ?_⟩
  unfold State.plainCart; decide

/-- No event is live in these TIA states. -/
theorem no_events (hclk : Nat) (blank latch : Bool) (g : Group) : ∀ e ∈ (tiaAt hclk blank latch).eventsOf g, 1 < e.remaining := by
  intro e he; rcases g with _ | s | _ <;> (try cases s) <;> cases he

theorem witness_LineClock :
    [227, 15, 31, 67].all (fun h => decide ((tiaAt h true false).ctr.count < 57)) = true ∧
      (tiaAt 75 true true).ctr.count < 57 ∧ (tiaAt 75 true true).hmoveLatch = true ∧
      ((tiaAt 75 true true).tick {}).hclk = 76 ∧
      ∀ g, ∀ e ∈ (tiaAt 75 true true).eventsOf g, 1 < e.remaining :=
  ⟨by decide, by decide, rfl, by decide, no_events 75 true true⟩

theorem witness_Scheduler :
    Tia.reset.liveEvents < 64 ∧ 64 ≤ ({ Tia.reset with events := List.replicate 64 ⟨1, .resetPos .bl⟩ } : Tia).liveEvents ∧
      (∀ g, ∀ e ∈ ({ Tia.reset with events := [⟨3, .resetPos .bl⟩] } : Tia).eventsOf g, 1 ≤ e.remaining) ∧
      ({ Tia.reset with events := [⟨1, .resetPos .bl⟩] } : Tia).eventsOf .tia = [⟨1, .resetPos .bl⟩] ∧
      ∀ h, h ≠ .tia → ({ Tia.reset with events := [⟨1, .resetPos .bl⟩] } : Tia).eventsOf h = [] := by
  refine ⟨by decide, by decide, ?_, rfl, ?_⟩
  · intro g e he
    rcases g with _ | s | _
    · cases List.mem_singleton.1 he; decide
    · cases s <;> cases he
    · cases he
  · intro h hn; rcases h with _ | s | _
    · exact absurd rfl hn
    · cases s <;> rfl
    · rfl

theorem witness_PositionStrobes :
    ({} : Params).lateRespxHeat = false ∧ Tia.reset.liveEvents < 64 ∧
      ({ delays := { resetHblank := 0 } } : Params).delays.resetHblank = 0 := by decide

theorem witness_HmoveRipple :
    ∃ t : Tia, t.hmoveCt = some 15 ∧ t.ctr.pclk = .fallingPhi1 ∧ t.hblank = true ∧
      ∀ g, ∀ e ∈ t.eventsOf g, 1 < e.remaining := by
  refine ⟨{ tiaAt 9 true true with hmoveCt := some 15 }, rfl, rfl, rfl, ?_⟩
  intro g; have := no_events 9 true true g
  cases g <;> exact this

theorem witness_WriteRegisters : ({} : Params).delays = {} ∧ 0x2D ≤ (0x2D : BitVec 6).toNat ∧ 0x2D ≤ (0x3F : BitVec 6).toNat := by
  decide

theorem witness_ReadRegisters : 8 ≤ (8 : BitVec 4).toNat ∧ 8 ≤ (15 : BitVec 4).toNat := by decide

theorem witness_SpriteClock :
    (0 < (Tia.shape {} Tia.reset .p0).startDelay) ∧
      ((⟨39, .fallingPhi2⟩ : Counter).pclk = .fallingPhi2 ∧ startCopy (some 1) ((2 + 1) % 40) = some 1) ∧
      startCopy none ((2 + 1) % 40) = none := by decide

theorem witness_VisibleClock :
    (∀ g, ∀ e ∈ (tiaAt 100 false false).eventsOf g, 1 < e.remaining) ∧
      ((tiaAt 100 false false).tick {}).hblank = false ∧ ((tiaAt 100 false false).tick {}).vblank = false ∧
      ((tiaAt 10 true false).tick {}).hblank = true ∧ (tiaAt 100 false false).pf.priority = false ∧
      ({ tiaAt 100 false false with pf := { Playfield.reset with priority := true } } : Tia).pf.priority = true ∧
      [79, 80, 159].map (fun x => if 80 ≤ x ∧ true = true then 19 - x % 80 / 4 else x % 80 / 4) = [19, 19, 0] :=
  ⟨no_events 100 false false, by decide, by decide, by decide, rfl, rfl, by decide⟩

theorem witness_WsyncWait :
    ∃ s : State, s.plainCart ∧ s.tia.wsync = true ∧ s.tia.ctr.count < 57 ∧ s.tia.liveEvents = 0 := by
  refine ⟨{ plain [] with tia := { tiaAt 42 true false with wsync := true } }, ?_⟩
  unfold State.plainCart; decide

theorem witness_ThumbLogic : (Instr.tAnd 1 2, fun s : State => s.low 1 &&& s.low 2) ∈ thumbLogicRows 1 2 3 := by
  simp [thumbLogicRows]

theorem witness_ThumbSums :
    (Instr.tNeg 1 2, (fun _ => 0 : Val), (fun s => ~~~ s.low 2 : Val), fun _ : State => true) ∈ thumbSumRows 1 2 3 4 5 ∧
      (Instr.tCmn 1 2, (fun s => s.low 1 : Val), (fun s => s.low 2 : Val), false) ∈ thumbCompareRows 1 2 3 4 5 := by
  simp [thumbSumRows, thumbCompareRows]

theorem witness_ThumbShifts : (thumbShiftRows 1 2 0).length = 7 := rfl

theorem witness_ThumbMoves :
    (8 : AnyReg) ≠ 13 ∧ (8 : AnyReg) ≠ 15 ∧ (thumbMoveRows 1 8 14 2).length = 4 ∧ (thumbStackRows 8 2).length = 4 :=
  ⟨by decide, by decide, rfl, rfl⟩

theorem witness_ThumbLoads : (thumbLoadRows 1 2 3 4 5).length = 10 := rfl

theorem witness_ThumbStores :
    (thumbStoreRows 1 0 3 4 5).length = 7 ∧ (coproc 0).arm.varMem.wf = true ∧ (coproc 0).arm.progMem.wf = true ∧
      (0x40000000 : Word).toNat % 4 = 0 ∧ (coproc 0).params.inVariable 0x40000000 4 = true ∧
      (coproc 0).params.inVariable 0x40000FFC 4 = true := ⟨rfl, by decide⟩

/-- The registers of the list `0x06`, with LR or without. -/
theorem ascending_r1_r2 : Ascending [1, 2] (inList 0x06) ∧ Ascending [] (inList 0x00) := by
  unfold Ascending inList; decide

/-- Two words of variable memory above the base of `coproc`, and below its stack pointer. -/
theorem words_below_sp : (coproc 0).variableWords 0x400007F4 3 ∧ (coproc 0).variableWords 0x40000000 2 ∧
    (coproc 0).variableWords 0x40000800 3 := by
  unfold State.variableWords; decide

theorem witness_ThumbBlockStores :
    Ascending [1, 2, 14] (fun j => inList 0x06 j ∨ ((1 : BitVec 1) = 1 ∧ j = 14)) ∧
      Ascending [] (fun j => inList 0x00 j ∨ ((0 : BitVec 1) = 1 ∧ j = 14)) ∧
      (0x400007F4 : Word) = (coproc 0).reg 13 - BitVec.ofNat 32 (4 * 3) ∧ (coproc 0).variableWords 0x400007F4 3 ∧
      (coproc 0).arm.varMem.wf = true ∧ Ascending [1, 2] (inList 0x06) ∧ (0x40000000 : Word) = (coproc 0).low 0 ∧
      ¬inList 0x06 (lowReg 0) ∧ (coproc 0).variableWords 0x40000000 2 ∧
      (inList 0x06 (lowReg 2) ∧ ∃ j ∈ ([1, 2] : List AnyReg), j.toNat < (2 : LowReg).toNat) ∧
      (coproc 0).arm.progMem.wf = true ∧ ∀ k, k < 3 → 0 < ((0x400007F4 : Word) + BitVec.ofNat 32 (4 * k)).toNat := by
  refine ⟨?_, ?_, by decide, words_below_sp.1, by decide, ascending_r1_r2.1, by decide, ?_, words_below_sp.2.1, ?_,
    by decide, by decide⟩
  · unfold Ascending inList; decide
  · unfold Ascending inList; decide
  · unfold inList; decide
  · unfold inList; decide

theorem witness_ThumbBlockLoads :
    Ascending [1, 2] (inList 0x06) ∧ Ascending [] (inList 0x00) ∧ (0x40000800 : Word) = (coproc 0).reg 13 ∧
      (coproc 0).variableWords 0x40000800 3 ∧ ¬inList 0x06 (lowReg 0) ∧ (coproc 0).variableWords 0x40000000 2 := by
  refine ⟨ascending_r1_r2.1, ascending_r1_r2.2, by decide, words_below_sp.2.2, ?_, words_below_sp.2.1⟩
  unfold inList; decide

theorem witness_ThumbBranches :
    (Instr.tBmi 0x80, true) ∈ List.zip (thumbBranchRows 0x80) (conditionHolds (coproc 0).armFlags) ∧
      (Instr.tBpl 0x80, false) ∈ List.zip (thumbBranchRows 0x80) (conditionHolds (coproc 0).armFlags) := by
  have h : (coproc 0).armFlags = ⟨true, false, true, false⟩ := rfl
  rw [h]; simp [thumbBranchRows, conditionHolds]

theorem witness_ThumbJumps :
    ((coproc 0).reg 14).getLsbD 0 = true ∧ ((coproc 0).reg 0).getLsbD 0 = false ∧
      (coproc 0).reg 15 = 0xFE + 4 := by decide

theorem witness_ArmMemoryChain :
    (4 ∈ [1, 2, 4]) ∧ (0x40000001 : Word).toNat % 4 ≠ 0 ∧
      ((coproc 0).params.inProgram 0x20000000 4 = false ∧ (coproc 0).params.inVariable 0x20000000 4 = false ∧
        (coproc 0).params.peripheral 0x20000000 = none) ∧
      ((0x00007FFC : Word).toNat % 4 = 0 ∧ (coproc 0).params.inProgram 0x00007FFC 4 = true ∧
        (coproc 0).params.inVariable 0x00007FFC 4 = false ∧ (coproc 0).params.programWritable = false) ∧
      ((0x40000FFC : Word).toNat % 4 = 0 ∧ (coproc 0).params.inProgram 0x40000FFC 4 = false ∧
        (coproc 0).params.inVariable 0x40000FFC 4 = true ∧ (coproc 0).arm.varMem.wf = true) ∧
      (coproc 0).params = {} ∧
      ({ coproc 0 with params := { programWritable := true } } : State).params.programWritable = true ∧
      (coproc 0).arm.progMem.wf = true := by decide

theorem witness_ArmInstructionEnd :
    (coproc 0).arm.wrotePC = false ∧ (coproc 0).arm.timer.ctrl.getLsbD 0 = false ∧
      ({ (coproc 0).arm with timer := ⟨1, 0, 0⟩ } : Arm).timer.ctrl.getLsbD 0 = true ∧
      ∃ s u : State, s.arm.wrotePC = true ∧ u.arm.wrotePC = true ∧
        s.reg 15 = s.params.armResetLr &&& 0xFFFFFFFE ∧ u.reg 15 ≠ u.params.armResetLr &&& 0xFFFFFFFE ∧
        (∀ e ∈ s.params.strongArmEntries, e.1 ≠ 0x200) ∧ u.params.entryTag (u.reg 15) = some .vcsJmp3 ∧
        (u.params.functionSteps .vcsJmp3).isSome = true ∧ (u.params.functionSteps (.other 0)).isSome = false := by
  refine ⟨rfl, rfl, rfl, (coproc 0).mapArm (Arm.writePC 0x00FFFFFF),
    { (coproc 0).mapArm (Arm.writePC 0x201) with params := { strongArmEntries := [(0x200, .vcsJmp3)] } }, ?_⟩
  decide

theorem witness_ArmRunBegins : State.reset.arm.yield = .programEnded ∧ (coproc 0).arm.yield ≠ .programEnded := by decide

theorem witness_ThumbCycles :
    (Instr.tBlHi 0, (⟨0, 1, 0⟩ : CycleCounts)) ∈ thumbCycleRows 0 0 0 0 0 0 0 0 0 0 ∧
      (∃ t, exec (.tBlHi 0) (coproc 0) = .next t) ∧ (∃ t, exec (.tPush 1 0x06) (coproc 0) = .next t) ∧
      (coproc 0).params.flashNum = 0 :=
  ⟨by simp [thumbCycleRows], ⟨_, rfl⟩, ⟨_, rfl⟩, rfl⟩

/-- The shim at the start of a function of the default table, with another function pushed or not. -/
def started (f : FnTag) (pushed : Option FnTag) : State :=
  { coproc 0 with
    shim := { Shim.reset with running := ⟨some f, 0, #v[0x02, 0x00, 0, 0]⟩, pushed := ⟨pushed, 1, #v[0, 0, 0, 0]⟩ } }

theorem witness_ShimFunctions :
    (shimFunctionRows 0x02 0x00 0x1000).length = 9 ∧
      ∀ r ∈ shimFunctionRows 0x02 0x00 0x1000, ∀ p, p = none ∨ p = some .vcsNop2 →
        (started r.1 p).mapper.variant = .coproc ∧ (started r.1 p).params.strongArmFunctions = defaultFunctions ∧
          (started r.1 p).shim.running = ⟨some r.1, 0, #v[0x02, 0x00, 0, 0]⟩ ∧ (started r.1 p).shim.busStuff = false ∧
          (started r.1 p).shim.expectedAddr = 0x1000 ∧ (started r.1 p).shim.pushed.fn = p :=
  ⟨rfl, fun _ _ _ _ => ⟨rfl, rfl, rfl, rfl, rfl, rfl⟩⟩

/-- A call that injects and pushes. -/
def pushing : ShimStep :=
  { act := .inject (.const 0xEA), andThen := .push .vcsLda2 #v[.const 0x42, .arg 1, .const 0, .const 0] }

theorem witness_ShimFunctions_push :
    (shimmed [pushing] #v[1, 2, 3, 4]).shimStep = some pushing ∧
      pushing.andThen = .push .vcsLda2 #v[.const 0x42, .arg 1, .const 0, .const 0] ∧
      (shimmed [pushing] #v[1, 2, 3, 4]).shim.ready (.read 0x1000) pushing.act = true ∧
      (shimmed [pushing] #v[1, 2, 3, 4]).shim.pushed.fn = none ∧
      ((shimmed [pushing] #v[1, 2, 3, 4]).params.functionSteps .vcsLda2).isSome = true ∧
      (started .vcsLda2 (some .vcsNop2)).shim.pushed.fn.isSome = true := by decide

/-- A shim about to stuff the byte 0x99 into a store at the address of its first register. -/
def stuffing (a : Word) : State := shimmed [{ act := .stuffWrite (.arg 0) (.const 0x99) }] #v[a, 0, 0, 0]

theorem witness_ShimFunctions_bus :
    (∃ t, (started .vcsLda2 none).shimTick (.read (busAddr 0xF000)) = .ok (some 0xA9, t)) ∧
      rangeOf (busAddr 0xF000) = .cartridge ∧
      (∃ t, (stuffing 0x80).shimTick (.write (busAddr 0x0080) 0x77) = .ok (some 0x99, t) ∧ t.riot.ram.wf = true) ∧
      inRam 0x0080 ∧ rangeOf (busAddr 0x0009) = .tia ∧
      ∃ t w, (stuffing 0x09).shimTick (.write (busAddr 0x0009) 0x77) = .ok (some 0x99, t) ∧ t.params.tiaWritePhase = 0 ∧
        t.tia.write t.params ((busAddr 0x0009).setWidth 6) 0x99 = .ok w := by
  refine ⟨⟨_, rfl⟩, by decide, ⟨_, rfl, by decide⟩, ?_, by decide, _, _, rfl, by decide, rfl⟩
  unfold inRam; decide

theorem witness_ResetSequence :
    State.reset.configRefusal = none ∧ State.reset.plainCart ∧ State.reset.cpu.resetting = true ∧
      State.reset.tia.wsync = false ∧ State.reset.tia.liveEvents = 0 ∧ State.reset.codeByte 0xFFFC = some 0x00 ∧
      State.reset.codeByte 0xFFFD = some 0x00 := by
  unfold State.plainCart; decide

theorem witness_ResetValues :
    ∃ (s t u : State) (m : Mapper) (c : CartParams), t = s.hardReset ∧ u = s.swapCartridge m c ∧
      t.mapper.variant ≠ .coproc ∧ c ≠ s.params.toCartParams :=
  ⟨plain [], _, _, (coproc 0).mapper, { armResetPc := 0x100 }, rfl, rfl, by decide, by decide⟩

/-- A state that is not the one at reset: the accumulator holds 1. -/
def ready : State := { State.reset with cpu := { State.reset.cpu with a := 1 } }

theorem ready_sprite (s : SpriteId) : (ready.tia.sprite s).Valid := by
  cases s <;> exact { ctr := by decide, resetPixel := by decide, hmovedPixel := by decide }

theorem ready_inv : ready.Inv :=
  { ram := rfl, rom := rfl, cartRam := rfl, armImage := rfl, progMem := rfl, varMem := rfl,
    tia := { ctr := by decide, ripple := fun _ h => (nomatch h), sprites := ready_sprite,
             pending := fun g e he => by (rcases g with _ | s | _ <;> (try cases s) <;> cases he), capacity := by decide },
    pushed := by decide, stuff := by decide, pipeline := by decide }

set_option maxRecDepth 4000 in
theorem witness_InvKept : ready.Inv ∧ ∃ t, step ready = .next t := ⟨ready_inv, _, rfl⟩

end Sys2Proof.Tests
end

section
/-! PROOFS. The status byte of the 6507 (R26). -/

namespace Sys2Proof.Machine

/-- The status byte listed from bit 0 up; 5 and 4 are no flags and read 1 (R26). -/
theorem Cpu.status_getLsbD (k : Cpu) :
    ∀ j, k.status.getLsbD j = [k.c, k.z, k.i, k.d, true, true, k.v, k.n].getD j false
  | 0 | 1 | 2 | 3 | 4 | 5 | 6 | 7 => by simp only [Cpu.status, BitVec.getLsbD_append]; simp
  | _ + 8 => BitVec.getLsbD_of_ge _ _ (Nat.le_add_left ..)

/-- Settles O29: a pushed bit is an entry of the status byte's list, and a pull copies six bits of its byte. -/
theorem statusByte : Obligations.StatusByte := by
  intro k p
  have pushed := k.status_getLsbD
  have pulled : k.withStatus p = flagsFrom p k := Cpu.withStatus_eq p k
  exact ⟨⟨pushed 7, pushed 6, pushed 5, pushed 4, pushed 3, pushed 2, pushed 1, pushed 0⟩, pulled⟩

end Sys2Proof.Machine
end

section
/-! PROOFS. The sums of the 6507, binary and decimal (R202, R203, R205, R206). -/

namespace Sys2Proof.Machine

/-! ### Sign bits and carries -/

theorem decide_toNat (p : Prop) [Decidable p] : (decide p).toNat = if p then 1 else 0 := Bool.cond_decide ..

/-- The overflow mask of the sums, read at its sign bit. -/
theorem msb_and_xor_xor (w x y z : Byte) :
    ((w ^^^ x) &&& (y ^^^ z)).msb = (w.msb != x.msb && y.msb != z.msb) := by
  rw [BitVec.msb_and, BitVec.msb_xor, BitVec.msb_xor, Bool.bne_eq_xor]

theorem byte_msb_eq_getLsbD (x : Byte) : x.msb = x.getLsbD 7 := BitVec.msb_eq_getLsbD_last x

theorem byte_msb_ofNat (t : Nat) : (BitVec.ofNat 8 t).msb = t.testBit 7 := by
  rw [byte_msb_eq_getLsbD, BitVec.getLsbD_ofNat, decide_eq_true (by decide), Bool.true_and]

theorem byte_msb_iff (x : Byte) : x.msb = true ↔ 128 ≤ x.toNat := by
  rw [BitVec.msb_eq_decide, decide_eq_true_iff]

theorem byte_msb_ne_iff (x y : Byte) : x.msb ≠ y.msb ↔ ¬(128 ≤ x.toNat ↔ 128 ≤ y.toNat) := by
  rw [← byte_msb_iff, ← byte_msb_iff, ← Bool.eq_iff_iff]

theorem byte_toInt (x : Byte) : x.toInt = if 128 ≤ x.toNat then (x.toNat : Int) - 256 else x.toNat := by
  rw [BitVec.toInt_eq_msb_cond]; simp only [byte_msb_iff]; rfl

/-! ### Binary mode -/

theorem adcBinary_r_toNat (a m : Byte) (c : Bool) :
    (adcBinary a m c).r.toNat = (a.toNat + m.toNat + c.toNat) % 256 := BitVec.toNat_ofNat ..

theorem adcBinary_c (a m : Byte) (c : Bool) : (adcBinary a m c).c = decide (256 ≤ a.toNat + m.toNat + c.toNat) := rfl

theorem adcBinary_exact (a m : Byte) (c : Bool) :
    (adcBinary a m c).r.toNat + 256 * (adcBinary a m c).c.toNat = a.toNat + m.toNat + c.toNat := by
  have ha := a.isLt
  have hm := m.isLt
  have hc := c.toNat_le
  rw [adcBinary_r_toNat, adcBinary_c, decide_toNat]
  split <;> omega

/-- The overflow of an addition says that both operands have the sign the result has not. -/
theorem adcBinary_v_iff (a m : Byte) (c : Bool) :
    (adcBinary a m c).v = true ↔ a.toInt + m.toInt + c.toNat < -128 ∨ 127 < a.toInt + m.toInt + c.toNat := by
  have signs : (adcBinary a m c).v = (a.msb != (adcBinary a m c).r.msb && m.msb != (adcBinary a m c).r.msb) :=
    msb_and_xor_xor ..
  have ha := a.isLt
  have hm := m.isLt
  have hc := c.toNat_le
  simp only [signs, Bool.and_eq_true, bne_iff_ne, byte_msb_ne_iff, adcBinary_r_toNat, byte_toInt]
  split <;> split <;> omega

theorem adcBinary_z_iff (a m : Byte) (c : Bool) : (adcBinary a m c).z = true ↔ (adcBinary a m c).r = 0 := beq_iff_eq

theorem sbcBinary_c (a m : Byte) (c : Bool) : (sbcBinary a m c).c = decide (m.toNat + 1 ≤ a.toNat + c.toNat) :=
  decide_eq_decide.mpr (by omega)

/-- The borrow form of a difference is a sum with the complement: `a - m - (1 - c) = a + (255 - m) + c - 256`. -/
theorem sbcBinary_r_eq (a m : Byte) (c : Bool) : (sbcBinary a m c).r = (adcBinary a (~~~ m) c).r := by
  have hm := m.isLt
  apply BitVec.eq_of_toNat_eq
  rw [adcBinary_r_toNat, BitVec.toNat_not, sbcBinary, BitVec.toNat_ofInt]
  omega

theorem sbcBinary_eq_adcBinary_not (a m : Byte) (c : Bool) : sbcBinary a m c = adcBinary a (~~~ m) c := by
  have hm := m.isLt
  have result := sbcBinary_r_eq a m c
  have overflow : (sbcBinary a m c).v = (adcBinary a (~~~ m) c).v := by
    calc (sbcBinary a m c).v
        = (a.msb != m.msb && a.msb != (sbcBinary a m c).r.msb) := msb_and_xor_xor ..
      _ = (a.msb != (adcBinary a (~~~ m) c).r.msb && (~~~ m).msb != (adcBinary a (~~~ m) c).r.msb) := by
          rw [result, BitVec.msb_not]
          cases a.msb <;> cases m.msb <;> cases (adcBinary a (~~~ m) c).r.msb <;> rfl
      _ = (adcBinary a (~~~ m) c).v := (msb_and_xor_xor ..).symm
  have carry : (sbcBinary a m c).c = (adcBinary a (~~~ m) c).c := by
    rw [sbcBinary_c, adcBinary_c, BitVec.toNat_not]
    exact decide_eq_decide.mpr (by omega)
  exact (AluOut.mk.injEq ..).mpr ⟨result, congrArg BitVec.msb result, overflow, congrArg (· == 0) result, carry⟩

theorem sbcBinary_exact (a m : Byte) (c : Bool) :
    (sbcBinary a m c).r.toNat + m.toNat + 1 + 256 * (sbcBinary a m c).c.toNat = a.toNat + c.toNat + 256 := by
  have hm := m.isLt
  have sum := adcBinary_exact a (~~~ m) c
  rw [BitVec.toNat_not] at sum
  rw [sbcBinary_eq_adcBinary_not]
  omega

/-! ### Decimal mode -/

/-- The intermediate sum of R203: the low digits with their carry, the high digits not yet adjusted. -/
def decimalSum (a m : Byte) (c : Bool) : Nat :=
  let lo := a.toNat % 16 + m.toNat % 16 + c.toNat
  16 * (a.toNat / 16) + 16 * (m.toNat / 16) + if 10 ≤ lo then (lo + 6) % 16 + 16 else lo

/-- The intermediate difference of R206. -/
def decimalDifference (a m : Byte) (c : Bool) : Int :=
  let lo : Int := (a.toNat % 16 : Nat) - (m.toNat % 16 : Nat) + c.toNat - 1
  16 * (a.toNat / 16 : Nat) - 16 * (m.toNat / 16 : Nat) + if lo < 0 then (lo - 6) % 16 - 16 else lo

/-- R203 over its intermediate sum. -/
theorem adcDecimal_eq (a m : Byte) (c : Bool) :
    adcDecimal a m c =
      { r := BitVec.ofNat 8 (if 160 ≤ decimalSum a m c then decimalSum a m c + 96 else decimalSum a m c)
        n := (decimalSum a m c).testBit 7
        v := a.getLsbD 7 != (decimalSum a m c).testBit 7 && m.getLsbD 7 != (decimalSum a m c).testBit 7
        z := (a.toNat + m.toNat + c.toNat) % 256 == 0
        c := decide (160 ≤ decimalSum a m c) } := by
  have carry (t : Nat) : 256 ≤ (if 160 ≤ t then t + 96 else t) ↔ 160 ≤ t := by split <;> omega
  simp only [adcDecimal, highDigit, Nat.mul_comm _ 16, msb_and_xor_xor, byte_msb_ofNat, carry, ← byte_msb_eq_getLsbD]
  rfl

theorem adcDecimal_r_toNat (a m : Byte) (c : Bool) :
    (adcDecimal a m c).r.toNat =
      (if 160 ≤ decimalSum a m c then decimalSum a m c + 96 else decimalSum a m c) % 256 := by
  rw [adcDecimal_eq]; exact BitVec.toNat_ofNat ..

theorem adcDecimal_c (a m : Byte) (c : Bool) : (adcDecimal a m c).c = decide (160 ≤ decimalSum a m c) := by
  rw [adcDecimal_eq]

theorem sbcDecimal_r_toNat (a m : Byte) (c : Bool) :
    ((sbcDecimal a m c).r.toNat : Int) =
      (if decimalDifference a m c < 0 then decimalDifference a m c - 96 else decimalDifference a m c) % 256 := by
  simp only [sbcDecimal, highDigit, Nat.mul_comm _ 16, BitVec.toNat_ofInt, Nat.cast_mul]
  exact Int.toNat_of_nonneg (Int.emod_nonneg _ (by decide))

/-- On decimal digits the intermediate sum has a decimal low digit, and a high one of 10 or more is the decimal carry. -/
theorem adcDecimal_bcd {a m : Byte} (c : Bool) (ha : isBcd a) (hm : isBcd m) :
    isBcd (adcDecimal a m c).r ∧
      bcdValue (adcDecimal a m c).r + 100 * (adcDecimal a m c).c.toNat = bcdValue a + bcdValue m + c.toNat := by
  obtain ⟨haHigh, haLow⟩ := ha
  obtain ⟨hmHigh, hmLow⟩ := hm
  have hc := c.toNat_le
  unfold isBcd bcdValue
  rw [adcDecimal_r_toNat, adcDecimal_c, decide_toNat, decimalSum]
  split <;> split <;> omega

/-- On decimal digits a digit that borrows is 6 too high in hexadecimal; R206 takes the 6 off in both digits. -/
theorem sbcDecimal_bcd {a m : Byte} (c : Bool) (ha : isBcd a) (hm : isBcd m) :
    isBcd (sbcDecimal a m c).r ∧
      bcdValue (sbcDecimal a m c).r + bcdValue m + 1 + 100 * (sbcDecimal a m c).c.toNat =
        bcdValue a + c.toNat + 100 := by
  obtain ⟨haHigh, haLow⟩ := ha
  obtain ⟨hmHigh, hmLow⟩ := hm
  have hc := c.toNat_le
  have result := sbcDecimal_r_toNat a m c
  have carry : (sbcDecimal a m c).c = _ := sbcBinary_c a m c
  unfold isBcd bcdValue
  rw [carry, decide_toNat]
  rw [decimalDifference] at result
  split at result <;> split at result <;> split <;> omega

/-- Settles O28: in binary mode a difference is the sum with the complement, and in decimal mode everything is read off the
intermediate sum or difference of R203 and R206. -/
theorem sumValues : Obligations.SumValues := by
  intro a m c
  refine ⟨⟨adcBinary_exact a m c, adcBinary_v_iff a m c, byte_msb_eq_getLsbD _, adcBinary_z_iff a m c⟩,
    ⟨sbcBinary_exact a m c, sbcBinary_eq_adcBinary_not a m c⟩, ?_, adcDecimal_bcd c, rfl, ?_, sbcDecimal_bcd c⟩
  · rintro _ _ rfl rfl
    rw [adcDecimal_eq]
    exact ⟨rfl, rfl, beq_iff_eq, decide_eq_true_iff, BitVec.toNat_ofNat ..⟩
  · rintro _ _ rfl rfl
    exact sbcDecimal_r_toNat a m c

end Sys2Proof.Machine
end

section
/-! PROOFS. The undocumented opcodes that are refused (R310, R340). -/

namespace Sys2Proof.Machine

/-! ### The policy -/

/-- The instruction is an operation behind `UNDOC_POLICY` (R310). -/
def PolicyGuarded (i : Instr) : Prop := ∃ o, ∀ s, exec i s = run (undoc o s)

theorem undoc_refuses {s : State} (h : s.params.undocPolicy = .refuseAll) (o : State → Except Stop State) :
    undoc o s = .error (.refused .undocumentedPolicy) := by
  simp only [undoc, h]

theorem PolicyGuarded.refused {i : Instr} (hi : PolicyGuarded i) {s : State}
    (h : s.params.undocPolicy = .refuseAll) : exec i s = .refused .undocumentedPolicy := by
  obtain ⟨o, guarded⟩ := hi
  rw [guarded, undoc_refuses h, run]

/-! ### The two classes of the undocumented opcodes -/

/-- The seven instructions of R340. -/
def isUnstable : Instr → Bool
  | .aneImm _ | .lxaImm _ | .shaIzy _ | .shaAby _ _ | .shyAbx _ _ | .shxAby _ _ | .tasAby _ _ => true
  | _ => false

theorem filter_isUnstable_undocRows (b1 b2 : Byte) : (undocRows b1 b2).filter isUnstable = unstableRows b1 b2 := rfl

theorem exec_of_isUnstable {i : Instr} (h : isUnstable i = true) (s : State) :
    exec i s = .refused .unstableOpcode := by
  unfold isUnstable at h
  split at h
  case h_8 => cases h
  all_goals rfl

/-- The stable opcodes and the JAMs, row by row. -/
theorem policyGuarded_of_not_isUnstable (b1 b2 : Byte) :
    ∀ i ∈ (undocRows b1 b2).filter (!isUnstable ·), PolicyGuarded i := by
  repeat refine List.forall_mem_cons.2 ⟨⟨_, fun _ => rfl⟩, ?_⟩
  exact List.forall_mem_nil _

theorem unstable_or_policyGuarded {b1 b2 : Byte} {i : Instr} (hi : i ∈ undocRows b1 b2) :
    i ∈ unstableRows b1 b2 ∨ PolicyGuarded i := by
  cases hu : isUnstable i with
  | true => exact .inl (filter_isUnstable_undocRows b1 b2 ▸ List.mem_filter.2 ⟨hi, hu⟩)
  | false => exact .inr (policyGuarded_of_not_isUnstable b1 b2 i (List.mem_filter.2 ⟨hi, by rw [hu]; rfl⟩))

theorem exec_unstableRows {b1 b2 : Byte} {i : Instr} (hi : i ∈ unstableRows b1 b2) (s : State) :
    exec i s = .refused .unstableOpcode := by
  rw [← filter_isUnstable_undocRows] at hi
  exact exec_of_isUnstable (List.mem_filter.1 hi).2 s

/-- Settles O27: an undocumented opcode is one of the seven, which never run, or stands behind the policy. -/
theorem refusedOpcodes : Obligations.RefusedOpcodes := by
  intro b1 b2 s
  refine ⟨fun i hi => exec_unstableRows hi s, fun policy => ⟨rfl, fun i hi => ?_⟩⟩
  obtain unstable | guarded := unstable_or_policyGuarded hi
  · exact .inr ⟨unstable, exec_unstableRows unstable s⟩
  · exact .inl (guarded.refused policy)

end Sys2Proof.Machine
end

section
/-! PROOFS. The read registers of the TIA (R451, R452). -/

namespace Sys2Proof.Machine

/-- The registers from 8 on are the inputs and the two that are nothing: bit 6 belongs to the collision registers alone. -/
theorem Tia.readBits_snd_of_eight_le (steps : Nat) (t : Tia) {n : BitVec 4} (hn : 8 ≤ n.toNat) :
    (t.readBits steps n).2 = false := by
  unfold Tia.readBits
  split
  case h_1 | h_2 | h_3 | h_4 | h_5 | h_6 | h_7 | h_8 => omega
  all_goals rfl

/-- Settles O38: a register given by its number is an entry of the read table, and from 8 on no entry drives bit 6. -/
theorem readRegisters : Obligations.ReadRegisters := by
  intro steps t
  exact ⟨rfl, rfl, rfl, rfl, rfl, rfl, rfl, rfl, fun _ => t.readBits_snd_of_eight_le steps, rfl, rfl⟩

end Sys2Proof.Machine
end

section
/-! PROOFS. The beginning of the ARM's `Run()` (R471, R473, R474). -/

namespace Sys2Proof.Machine

/-- `R[0..12] <- 0` (R474). -/
theorem Arm.resetRegs_of_lt_thirteen (p : Params) :
    ∀ (n : Nat) (h : n < 16), n < 13 → (Arm.resetRegs p)[n] = 0
  | 0, _, _ | 1, _, _ | 2, _, _ | 3, _, _ | 4, _, _ | 5, _, _ | 6, _, _ | 7, _, _ | 8, _, _ | 9, _, _ | 10, _, _
  | 11, _, _ | 12, _, _ => rfl
  | n + 13, _, h => absurd h (by omega)

/-- What every `Run()` sets before its loop, the reset apart (R471). -/
theorem Arm.beginRun_spec (p : Params) (a : Arm) :
    (a.beginRun p).yield = .running ∧ (a.beginRun p).runUnits = 0 ∧ (a.beginRun p).runInstrs = 0 ∧
      (a.beginRun p).skipBreak = (a.yield == .breakpoint) :=
  ⟨rfl, rfl, rfl, rfl⟩

/-- A `Run()` after the program's end begins with `resetRegisters()` (R471). -/
theorem Arm.beginRun_of_ended (p : Params) {a : Arm} (h : a.yield = .programEnded) :
    a.beginRun p =
      { a.resetRegisters p with skipBreak := a.yield == .breakpoint, yield := .running, runUnits := 0, runInstrs := 0 } := by
  simp only [Arm.beginRun, if_pos h]

/-- A `Run()` after any other yield goes on where the program yielded (R473). -/
theorem Arm.beginRun_of_not_ended (p : Params) {a : Arm} (h : a.yield ≠ .programEnded) :
    a.beginRun p = { a with skipBreak := a.yield == .breakpoint, yield := .running, runUnits := 0, runInstrs := 0 } := by
  simp only [Arm.beginRun, if_neg h]

/-- Settles O54: the yield decides between the reset and the resume, and each is one record update of the state before. -/
theorem armRunBegins : Obligations.ArmRunBegins := by
  rintro p a b rfl
  refine ⟨a.beginRun_spec p, fun ended => ?_, fun notEnded => ?_⟩
  · rw [Arm.beginRun_of_ended p ended]
    exact ⟨fun j hj => Arm.resetRegs_of_lt_thirteen p j.toNat j.isLt hj, rfl, rfl, rfl, rfl, rfl, rfl⟩
  · rw [Arm.beginRun_of_not_ended p notEnded]

end Sys2Proof.Machine
end

section
/-! PROOFS. The sums and compares of the ARM (R534). -/

namespace Sys2Proof.Machine

/-! ### `addFlags` in the terms of the statements -/

theorem addFlags_r (a b : Word) (c : Bool) : (addFlags a b c).r = addition a b c := by
  simp only [addFlags, addition, BitVec.ofNat_add, BitVec.ofNat_toNat, BitVec.setWidth_eq]

/-- V of R534: the operands' signs agree and the result's differs. -/
theorem addFlags_v (a b : Word) (c : Bool) :
    (addFlags a b c).v =
      decide (a.getLsbD 31 = b.getLsbD 31 ∧ (addition a b c).getLsbD 31 ≠ a.getLsbD 31) := by
  have signs : (addFlags a b c).v = (a.msb == b.msb && (addFlags a b c).r.msb != a.msb) := rfl
  simp only [signs, addFlags_r, msb_eq_bit31, bne, Bool.beq_eq_decide_eq, Bool.decide_and, ne_eq, decide_not]

theorem addFlags_flags (a b : Word) (c : Bool) :
    (⟨(addFlags a b c).n, (addFlags a b c).z, (addFlags a b c).c, (addFlags a b c).v⟩ : ArmFlags) =
      additionFlags a b c := by
  have negative : (addFlags a b c).n = (addition a b c).getLsbD 31 := by
    rw [← addFlags_r, ← msb_eq_bit31]; rfl
  have zero : (addFlags a b c).z = decide (addition a b c = 0) := by
    rw [← addFlags_r]; rfl
  rw [negative, zero, addFlags_v]; rfl

/-! ### The two shapes -/

theorem ArmEffect.addFlags_thumbArith (s : State) (rd : LowReg) (a b : Word) (c : Bool) :
    ArmEffect s (s.charge1S.thumbArith rd (addFlags a b c)) (withReg (lowReg rd) (addition a b c) s.reg)
      (additionFlags a b c) := by
  rw [← addFlags_r, ← addFlags_flags]
  exact .thumbArith s.charge1S_same rd _

theorem ArmEffect.addFlags_thumbCompare (s : State) (a b : Word) (c : Bool) :
    ArmEffect s (s.charge1S.thumbCompare (addFlags a b c)) s.reg (additionFlags a b c) := by
  rw [← addFlags_flags]
  exact .thumbCompare s.charge1S_same _

/-! ### The rows -/

/-- A sum is one `addFlags` of its row's arguments, written to `Rd`. -/
theorem exec_thumbSumRows (rd rs rn : LowReg) (imm3 : BitVec 3) (imm : Byte) (s : State) :
    ∀ r ∈ thumbSumRows rd rs rn imm3 imm,
      exec r.1 s = .next (s.charge1S.thumbArith rd (addFlags (r.2.1 s) (r.2.2.1 s) (r.2.2.2 s))) := by
  repeat refine List.forall_mem_cons.2 ⟨rfl, ?_⟩
  exact List.forall_mem_nil _

/-- A compare is one `addFlags` of its row's arguments, the result discarded. -/
theorem exec_thumbCompareRows (rd rs : LowReg) (hd hs : AnyReg) (imm : Byte) (s : State) :
    ∀ r ∈ thumbCompareRows rd rs hd hs imm,
      exec r.1 s = .next (s.charge1S.thumbCompare (addFlags (r.2.1 s) (r.2.2.1 s) r.2.2.2)) := by
  repeat refine List.forall_mem_cons.2 ⟨rfl, ?_⟩
  exact List.forall_mem_nil _

/-- Settles O43: every row is one of two shapes, and the shape's effect is that of `addFlags`. -/
theorem thumbSums : Obligations.ThumbSums := by
  intro s rd rs rn hd hs imm3 imm
  refine ⟨?sums, ?compares⟩
  case sums =>
    rintro r hr _ _ _ rfl rfl rfl
    exact ⟨_, exec_thumbSumRows rd rs rn imm3 imm s r hr, .addFlags_thumbArith s rd _ _ _⟩
  case compares =>
    rintro r hr _ _ _ rfl rfl rfl
    exact ⟨_, exec_thumbCompareRows rd rs hd hs imm s r hr, .addFlags_thumbCompare s _ _ _⟩

end Sys2Proof.Machine
end

section
/-! PROOFS. The decoders and the encoder (R131, R133, R531 to R533). -/

namespace Sys2Proof.Machine

/-- Settles O1: each word evaluates to its instruction. -/
theorem sampleWords : Obligations.SampleWords := by
  repeat refine ⟨rfl, ?_⟩
  rfl

/-! ### The 6507: one matrix entry for each instruction -/

/-- A Thumb row, or the matrix entry of the first byte it is encoded in. -/
theorem isThumb_or_decodeBytes6507_encode (i : Instr) (rest : List Byte) :
    isThumb i = true ∨ decodeBytes6507 (encode i ++ rest) = i := by
  cases i <;> first | exact .inl rfl | exact .inr ((decodeBytes6507_cons _ _).trans rfl)

/-- Settles O2: the first byte finds the entry, and the entry takes its operands from the bytes that the encoder wrote. -/
theorem roundTrip6507 : Obligations.RoundTrip6507 := by
  intro i rest notThumb
  refine (isThumb_or_decodeBytes6507_encode i rest).resolve_left ?_
  rw [notThumb]
  exact Bool.false_ne_true

theorem encode_decode6507 (b0 b1 b2 : Byte) : encode (decode6507 b0 b1 b2) = [b0, b1, b2].take (opLength b0) := by
  obtain ⟨n, rfl⟩ : ∃ n : Fin 256, b0 = BitVec.ofFin n := ⟨b0.toFin, rfl⟩
  fin_cases n <;> rfl

/-! ### The fields of a halfword -/

theorem bits3_toNat (w lo : Nat) : (bits3 w lo).toNat = w / 2 ^ lo % 8 := rfl
theorem bits5_toNat (w : Nat) : (bits5 w).toNat = w / 64 % 32 := rfl
theorem bits7_toNat (w : Nat) : (bits7 w).toNat = w % 128 := rfl
theorem bits8_toNat (w : Nat) : (bits8 w).toNat = w % 256 := rfl
theorem bits11_toNat (w : Nat) : (bits11 w).toNat = w % 2048 := rfl
theorem hiRs_toNat (w : Nat) : (hiRs w).toNat = w / 8 % 16 := rfl
theorem hiRd_toNat (w : Nat) : (hiRd w).toNat = w / 128 % 2 * 8 + w % 8 :=
  (BitVec.toNat_ofNat ..).trans (Nat.mod_eq_of_lt (by omega))

theorem halfBytes_toNat (w : Half) : halfBytes w.toNat = [w.extractLsb' 0 8, w.extractLsb' 8 8] := by
  simp only [halfBytes, BitVec.extractLsb', Nat.shiftRight_eq_div_pow, Nat.reducePow, Nat.div_one]

/-- What lies below a multiple of `b` does not show in a quotient by a multiple of `b`. -/
theorem add_div_of_lt {fixed low b d : Nat} (hlow : low < b) (hfixed : fixed % b = 0) (hd : d % b = 0) :
    (fixed + low) / d = fixed / d := by
  obtain ⟨e, rfl⟩ := Nat.dvd_of_mod_eq_zero hd
  obtain ⟨g, rfl⟩ := Nat.dvd_of_mod_eq_zero hfixed
  rw [← Nat.div_div_eq_div_mul, ← Nat.div_div_eq_div_mul, Nat.mul_add_div (by omega), Nat.div_eq_of_lt hlow,
    Nat.mul_div_cancel_left _ (by omega), Nat.add_zero]

/-! Three fields at bits 0, 3 and 6 (formats 1, 2, 4 and 7 to 10): each is read back, and above them the fixed bits show. -/

section ThreeFields
variable {fixed d n : Nat} {f0 f3 f6 : BitVec 3} {off : BitVec 5}

theorem bits3_threeFields_0 (h : fixed % 8 = 0) : bits3 (fixed + n * 64 + f3.toNat * 8 + f0.toNat) 0 = f0 := by
  rw [← BitVec.toNat_inj, bits3_toNat]; omega

theorem bits3_threeFields_3 (h : fixed % 64 = 0) : bits3 (fixed + n * 64 + f3.toNat * 8 + f0.toNat) 3 = f3 := by
  rw [← BitVec.toNat_inj, bits3_toNat]; omega

theorem bits3_threeFields_6 (h : fixed % 512 = 0) :
    bits3 (fixed + f6.toNat * 64 + f3.toNat * 8 + f0.toNat) 6 = f6 := by
  rw [← BitVec.toNat_inj, bits3_toNat]; omega

theorem bits5_threeFields (h : fixed % 2048 = 0) : bits5 (fixed + off.toNat * 64 + f3.toNat * 8 + f0.toNat) = off := by
  rw [← BitVec.toNat_inj, bits5_toNat]; omega

theorem twoFields_div (h : fixed % 64 = 0) (hd : d % 64 = 0) :
    (fixed + 0 * 64 + f3.toNat * 8 + f0.toNat) / d = fixed / d := by
  rw [← add_div_of_lt (low := f3.toNat * 8 + f0.toNat) (by omega) h hd]; congr 1; omega

theorem threeFields_div (h : fixed % 512 = 0) (hd : d % 512 = 0) :
    (fixed + f6.toNat * 64 + f3.toNat * 8 + f0.toNat) / d = fixed / d := by
  rw [← add_div_of_lt (low := f6.toNat * 64 + f3.toNat * 8 + f0.toNat) (by omega) h hd]; congr 1; omega

theorem offsetFields_div (h : fixed % 2048 = 0) (hd : d % 2048 = 0) :
    (fixed + off.toNat * 64 + f3.toNat * 8 + f0.toNat) / d = fixed / d := by
  rw [← add_div_of_lt (low := off.toNat * 64 + f3.toNat * 8 + f0.toNat) (by omega) h hd]; congr 1; omega

end ThreeFields

/-! A register over eight bits (formats 3, 6, 11, 12, 15), and one low field (formats 13, 14, 16 to 19). -/

section LowFields
variable {fixed d : Nat} {r : LowReg} {v : Byte} {imm7 : BitVec 7} {off : BitVec 11}

theorem bits3_regByte (h : fixed % 2048 = 0) : bits3 (fixed + r.toNat * 256 + v.toNat) 8 = r := by
  rw [← BitVec.toNat_inj, bits3_toNat]; omega

theorem bits8_regByte (h : fixed % 256 = 0) : bits8 (fixed + r.toNat * 256 + v.toNat) = v := by
  rw [← BitVec.toNat_inj, bits8_toNat]; omega

theorem regByte_div (h : fixed % 2048 = 0) (hd : d % 2048 = 0) : (fixed + r.toNat * 256 + v.toNat) / d = fixed / d := by
  rw [← add_div_of_lt (low := r.toNat * 256 + v.toNat) (by omega) h hd]; congr 1; omega

theorem bits7_low (h : fixed % 128 = 0) : bits7 (fixed + imm7.toNat) = imm7 := by
  rw [← BitVec.toNat_inj, bits7_toNat]; omega

theorem bits8_low (h : fixed % 256 = 0) : bits8 (fixed + v.toNat) = v := by
  rw [← BitVec.toNat_inj, bits8_toNat]; omega

theorem bits11_low (h : fixed % 2048 = 0) : bits11 (fixed + off.toNat) = off := by
  rw [← BitVec.toNat_inj, bits11_toNat]; omega

theorem low7_div (h : fixed % 128 = 0) (hd : d % 128 = 0) : (fixed + imm7.toNat) / d = fixed / d :=
  add_div_of_lt imm7.isLt h hd

theorem low8_div (h : fixed % 256 = 0) (hd : d % 256 = 0) : (fixed + v.toNat) / d = fixed / d :=
  add_div_of_lt v.isLt h hd

theorem low11_div (h : fixed % 2048 = 0) (hd : d % 2048 = 0) : (fixed + off.toNat) / d = fixed / d :=
  add_div_of_lt off.isLt h hd

end LowFields

/-! Two registers of four bits (format 5), the destination in two parts. -/

section HighFields
variable {fixed d : Nat} {rd rs : AnyReg}

theorem hiRd_high (h : fixed % 256 = 0) : hiRd (fixed + rd.toNat / 8 * 128 + rs.toNat * 8 + rd.toNat % 8) = rd := by
  rw [← BitVec.toNat_inj, hiRd_toNat]; omega

theorem hiRs_high (h : fixed % 256 = 0) : hiRs (fixed + rd.toNat / 8 * 128 + rs.toNat * 8 + rd.toNat % 8) = rs := by
  rw [← BitVec.toNat_inj, hiRs_toNat]; omega

theorem high_div (h : fixed % 256 = 0) (hd : d % 256 = 0) :
    (fixed + rd.toNat / 8 * 128 + rs.toNat * 8 + rd.toNat % 8) / d = fixed / d := by
  rw [← add_div_of_lt (low := rd.toNat / 8 * 128 + rs.toNat * 8 + rd.toNat % 8) (by omega) h hd]; congr 1; omega

/-- BX has `H1` clear. -/
theorem bx_h1 : (0x4700 + (0 : AnyReg).toNat / 8 * 128 + rs.toNat * 8 + (0 : AnyReg).toNat % 8) / 128 % 2 = 0 := by
  simp only [BitVec.reduceToNat]; omega

/-- BX has bits 2..0 clear. -/
theorem bx_low : (0x4700 + (0 : AnyReg).toNat / 8 * 128 + rs.toNat * 8 + (0 : AnyReg).toNat % 8) % 8 = 0 := by
  simp only [BitVec.reduceToNat]; omega

end HighFields

/-! ### Thumb: decode after encode -/

/-- An instruction decodes from the halfword it is encoded in. -/
theorem decodeBytesThumb_of_halfBytes {i : Instr} {w : Nat} (encoded : encode i = halfBytes w) (fits : w < 65536)
    (decoded : ∀ hw : Half, hw.toNat = w → decodeThumb hw = .ok i) (rest : List Byte) :
    decodeBytesThumb (encode i ++ rest) = .ok i := by
  rw [encoded, decodeBytesThumb, halfOfBytes_halfBytes, decoded]
  rw [BitVec.toNat_ofNat, Nat.mod_eq_of_lt fits]

/-- Row by row: the fixed bits choose the row in the decoder's tables, and its fields are read back. -/
theorem decodeBytesThumb_encode (i : Instr) (rest : List Byte) (thumb : isThumb i = true) :
    decodeBytesThumb (encode i ++ rest) = .ok i := by
  cases i <;> try exact absurd thumb Bool.false_ne_true
  case tPush r _ | tPop r _ =>
    obtain rfl | rfl : r = 0 ∨ r = 1 := by clear thumb; revert r; decide
    all_goals
      refine decodeBytesThumb_of_halfBytes rfl (by simp only [BitVec.reduceToNat]; omega) (fun hw h => ?_) rest
      simp only [decodeThumb, decodeHalf, decodeMisc, h, Nat.reduceDiv, Nat.reduceMod, Nat.reduceAdd, Nat.reduceMul,
        BitVec.reduceToNat, bits8_low, low8_div, ThumbInstr.toInstr]
  all_goals
    refine decodeBytesThumb_of_halfBytes rfl (by omega) (fun hw h => ?_) rest
    simp only [decodeThumb, decodeHalf, decodeAlu, decodeAddSub, decodeRegOffset, decodeMisc, decodeHigh, decodeCond,
      ThumbInstr.toInstr, h, Nat.reduceDiv, Nat.reduceMod, bits3_threeFields_0, bits3_threeFields_3,
      bits3_threeFields_6, bits5_threeFields, twoFields_div, threeFields_div, offsetFields_div, bits3_regByte,
      bits8_regByte, regByte_div, bits7_low, bits8_low, bits11_low, low7_div, low8_div, low11_div, hiRd_high, hiRs_high,
      high_div, bx_h1, bx_low, and_self, if_true, if_false, Nat.one_ne_zero]

/-- Settles O3: the fixed bits of a row choose it in the tables, and no field reaches into another. -/
theorem roundTripThumb : Obligations.RoundTripThumb := fun i rest thumb => decodeBytesThumb_encode i rest thumb

/-! ### Thumb: encode after decode -/

/-- Where a decoder answers, the answer is encoded in the halfword `w`. -/
def EncodedIn (w : Nat) (r : Except DecodeError ThumbInstr) : Prop := ∀ j, r = .ok j → encode j.toInstr = halfBytes w

theorem EncodedIn.ok {j : ThumbInstr} {v w : Nat} (encoded : encode j.toInstr = halfBytes v) (h : v = w) :
    EncodedIn w (.ok j) := by
  intro _ hj
  rw [← Except.ok.inj hj, encoded, h]

theorem EncodedIn.error {w : Nat} (e : DecodeError) : EncodedIn w (.error e) := nofun

theorem encodedIn_decodeAddSub {w : Nat} (h : w / 2048 = 3) : EncodedIn w (.ok (decodeAddSub w)) := by
  unfold decodeAddSub
  split
  all_goals
    refine .ok rfl ?_
    simp only [bits3_toNat, Nat.reducePow, Nat.div_one, imp_false] at *
    omega

theorem encodedIn_decodeAlu {w : Nat} (h : w / 1024 = 16) : EncodedIn w (.ok (decodeAlu w)) := by
  unfold decodeAlu
  split
  all_goals
    refine .ok rfl ?_
    simp only [bits3_toNat, Nat.reducePow, Nat.div_one, imp_false] at *
    omega

theorem encodedIn_decodeHigh {w : Nat} (h : w / 1024 = 17) : EncodedIn w (decodeHigh w) := by
  unfold decodeHigh
  split <;> (try split) <;> (try exact .error _)
  all_goals
    refine .ok rfl ?_
    simp only [hiRd_toNat, hiRs_toNat, BitVec.reduceToNat, imp_false] at *
    omega

theorem encodedIn_decodeRegOffset {w : Nat} (h : w / 4096 = 5) : EncodedIn w (.ok (decodeRegOffset w)) := by
  unfold decodeRegOffset
  split
  all_goals
    refine .ok rfl ?_
    simp only [bits3_toNat, Nat.reducePow, Nat.div_one, imp_false] at *
    omega

theorem encodedIn_decodeMisc {w : Nat} (h : w / 4096 = 11) : EncodedIn w (decodeMisc w) := by
  unfold decodeMisc
  split <;> (try split) <;> (try exact .error _)
  all_goals
    refine .ok rfl ?_
    simp only [bits7_toNat, bits8_toNat, BitVec.reduceToNat] at *
    omega

theorem encodedIn_decodeCond {w : Nat} (h : w / 4096 = 13) : EncodedIn w (decodeCond w) := by
  unfold decodeCond
  split <;> (try exact .error _)
  all_goals
    refine .ok rfl ?_
    simp only [bits8_toNat, imp_false] at *
    omega

theorem encodedIn_decodeHalf (hw : Half) : EncodedIn hw.toNat (decodeHalf hw) := by
  have fits := hw.isLt
  unfold decodeHalf
  generalize hw.toNat = w at *
  dsimp only
  split
  case h_4 => exact encodedIn_decodeAddSub ‹_›
  case h_9 =>
    split
    · exact encodedIn_decodeAlu (by omega)
    · exact encodedIn_decodeHigh (by omega)
  case h_11 | h_12 => exact encodedIn_decodeRegOffset (by omega)
  case h_23 | h_24 => exact encodedIn_decodeMisc (by omega)
  case h_27 | h_28 => exact encodedIn_decodeCond (by omega)
  case h_30 => exact .error _
  all_goals
    refine .ok rfl ?_
    simp only [bits3_toNat, bits5_toNat, bits8_toNat, bits11_toNat, Nat.reducePow, Nat.div_one, imp_false] at *
    omega

/-- Settles O4: opcode by opcode on the 6507, and decoder by decoder on the ARM, the row is encoded in what it was read from. -/
theorem encodeOfDecode : Obligations.EncodeOfDecode := by
  refine ⟨encode_decode6507, fun w i decoded => ?_⟩
  unfold decodeThumb at decoded
  split at decoded
  case h_1 j hj => rw [← Except.ok.inj decoded, encodedIn_decodeHalf w j hj, halfBytes_toNat]
  case h_2 => exact nomatch decoded

/-! ### Undefined halfwords -/

theorem exists_ok_eq_error_iff {α ε : Type} (a : α) (p : Prop) : ((∃ e : ε, Except.ok a = .error e) ↔ p) ↔ ¬p := by
  simp

theorem exists_error_eq_error_iff {α ε : Type} (a : ε) (p : Prop) :
    ((∃ e, (Except.error a : Except ε α) = .error e) ↔ p) ↔ p := by
  simp

/-- Only BX has bits that must be clear (R533). -/
theorem decodeHigh_error_iff (w : Nat) :
    (∃ e, decodeHigh w = .error e) ↔ w / 256 % 4 = 3 ∧ ¬(w / 128 % 2 = 0 ∧ w % 8 = 0) := by
  unfold decodeHigh
  split <;> (try split) <;> simp only [exists_ok_eq_error_iff, exists_error_eq_error_iff, imp_false] at * <;> omega

theorem decodeMisc_error_iff (w : Nat) :
    (∃ e, decodeMisc w = .error e) ↔ w / 256 % 16 ≠ 0 ∧ w / 256 % 16 ≠ 4 ∧ w / 256 % 16 ≠ 5 ∧ w / 256 % 16 ≠ 12 ∧
      w / 256 % 16 ≠ 13 := by
  unfold decodeMisc
  split <;> simp only [exists_ok_eq_error_iff, exists_error_eq_error_iff, imp_false] at * <;> omega

theorem decodeCond_error_iff (w : Nat) : (∃ e, decodeCond w = .error e) ↔ w / 256 % 16 = 14 := by
  unfold decodeCond
  split <;> simp only [exists_ok_eq_error_iff, exists_error_eq_error_iff, imp_false] at * <;> omega

/-- Settles O5: of the 32 values of the top five bits one is undefined whole, and three go to a decoder that can fail. -/
theorem undefinedHalfwords : Obligations.UndefinedHalfwords := by
  intro hw
  have fits := hw.isLt
  unfold decodeHalf
  generalize hw.toNat = w at *
  dsimp only
  split
  case h_9 =>
    split
    · rw [exists_ok_eq_error_iff]; omega
    · rw [decodeHigh_error_iff]; omega
  case h_23 | h_24 => rw [decodeMisc_error_iff]; omega
  case h_27 | h_28 => rw [decodeCond_error_iff]; omega
  case h_30 => rw [exists_error_eq_error_iff]; omega
  all_goals
    simp only [exists_ok_eq_error_iff, imp_false] at *
    omega

end Sys2Proof.Machine
end

section
/-! PROOFS. The 6507's instructions that read an operand (R170 to R173, R200 to R214, R317 to R336). -/

namespace Sys2Proof.Machine

/-! ### The operations of the model as functions -/

theorem intoA_eq_loadA : intoA = Cpu.loadA := by funext v k; exact (Cpu.loadA_eq v k).symm
theorem intoX_eq_loadX : intoX = Cpu.loadX := by funext v k; exact (Cpu.loadX_eq v k).symm
theorem intoY_eq_loadY : intoY = Cpu.loadY := by funext v k; exact (Cpu.loadY_eq v k).symm
theorem flagsNZ_eq_setNZ : flagsNZ = Cpu.setNZ := by funext v k; exact (Cpu.setNZ_eq v k).symm
theorem comparing_eq_compare (r m : Byte) : comparing r m = Cpu.compare r m := by
  funext k; exact (Cpu.compare_eq r m k).symm
theorem testing_eq_bitTest : testing = Cpu.bitTest := by funext v k; exact (Cpu.bitTest_eq v k).symm
theorem laxing_eq_loadAX : laxing = Cpu.loadAX := by funext v k; exact (Cpu.loadAX_eq v k).symm
theorem lasing_eq_las : lasing = Cpu.las := by funext v k; exact (Cpu.las_eq v k).symm
theorem ancing_eq_anc : ancing = Cpu.anc := by funext v k; exact (Cpu.anc_eq v k).symm
theorem alring_eq_alr : alring = Cpu.alr := by funext v k; exact (Cpu.alr_eq v k).symm
theorem sbxing_eq_sbx : sbxing = Cpu.sbx := by funext v k; exact (Cpu.sbx_eq v k).symm

/-! ### Sources -/

/-- A source that answers on every state of a cartridge without a coprocessor, and only reads. -/
def Source.Sound : Source → Prop
  | .value _ => True
  | .memory ea => ea.Sound

/-- The cycles and the operation of a read instruction with this source. -/
def Source.perform (op : Byte → Cpu → Cpu) : Source → State → Except Stop State
  | .value m => immediate op m
  | .memory ea => readVia ea op

/-- A row of a table of read instructions is as its source and its operation say. -/
def ReadRow (s : State) (r : Instr × Source × (Byte → Cpu → Cpu)) : Prop :=
  exec r.1 s = run (r.2.1.perform r.2.2 s)

theorem readsAs_of_row {s : State} {r : Instr × Source × (Byte → Cpu → Cpu)} (hp : s.plainCart) (row : ReadRow s r)
    (sound : r.2.1.Sound) (regular : ∀ m, Cpu.Regular (r.2.2 m)) : ReadsAs s r.1 r.2.1 r.2.2 := by
  obtain ⟨i, src, op⟩ := r
  cases src with
  | value m => exact readsAs_value row fun _ _ => rfl
  | memory ea => exact readsAs_memory hp sound row (fun _ _ => rfl) regular

/-! ### The rows of the table -/

theorem readRow_loadRows (b1 b2 : Byte) (s : State) : ∀ r ∈ loadRows b1 b2, ReadRow s r := by
  rw [loadRows, intoA_eq_loadA, intoX_eq_loadX, intoY_eq_loadY]
  repeat refine List.forall_mem_cons.2 ⟨rfl, ?_⟩
  exact List.forall_mem_nil _

theorem readRow_logicRows (b1 b2 : Byte) (s : State) : ∀ r ∈ logicRows b1 b2, ReadRow s r := by
  rw [logicRows, intoA_eq_loadA, testing_eq_bitTest]
  repeat refine List.forall_mem_cons.2 ⟨rfl, ?_⟩
  exact List.forall_mem_nil _

theorem readRow_compareRows (b1 b2 : Byte) (s : State) : ∀ r ∈ compareRows b1 b2, ReadRow s r := by
  simp only [compareRows, comparing_eq_compare]
  repeat refine List.forall_mem_cons.2 ⟨rfl, ?_⟩
  exact List.forall_mem_nil _

theorem readRow_sumRows (b1 b2 : Byte) (s : State) : ∀ r ∈ sumRows b1 b2, ReadRow s r := by
  rw [sumRows]
  repeat refine List.forall_mem_cons.2 ⟨rfl, ?_⟩
  exact List.forall_mem_nil _

theorem undoc_of_runs {s : State} (h : s.runsUndoc) (i : Instr) (o : State → Except Stop State)
    (he : exec i s = run (undoc o s)) : exec i s = run (o s) := by rw [he, undoc_runs h]

theorem readRow_undocReadRows {s : State} (b1 b2 : Byte) (h : s.runsUndoc) : ∀ r ∈ undocReadRows b1 b2, ReadRow s r := by
  rw [undocReadRows, laxing_eq_loadAX, lasing_eq_las, ancing_eq_anc, alring_eq_alr, sbxing_eq_sbx]
  repeat refine List.forall_mem_cons.2 ⟨undoc_of_runs h _ _ rfl, ?_⟩
  exact List.forall_mem_nil _

/-- The sources of every read row. -/
theorem source_sound (b1 b2 : Byte) :
    ∀ r ∈ loadRows b1 b2 ++ logicRows b1 b2 ++ compareRows b1 b2 ++ sumRows b1 b2 ++ undocReadRows b1 b2,
      r.2.1.Sound := by
  simp only [loadRows, logicRows, compareRows, sumRows, undocReadRows, List.cons_append, List.nil_append,
    List.forall_mem_cons, Source.Sound, eaZp_sound, eaZpx_sound, eaZpy_sound, eaAbs_sound, eaAbxRead_sound,
    eaAbyRead_sound, eaIzx_sound, eaIzyRead_sound, List.not_mem_nil, false_imp_iff, implies_true, and_self]

/-- The operations of every read row look at the observable registers alone. -/
theorem readOp_regular (b1 b2 : Byte) :
    ∀ r ∈ loadRows b1 b2 ++ logicRows b1 b2 ++ compareRows b1 b2 ++ sumRows b1 b2 ++ undocReadRows b1 b2,
      ∀ m, Cpu.Regular (r.2.2 m) := by
  simp only [loadRows, logicRows, compareRows, sumRows, undocReadRows, List.cons_append, List.nil_append]
  repeat refine List.forall_mem_cons.2 ⟨fun _ _ => rfl, ?_⟩
  exact List.forall_mem_nil _

/-- Settles O13: every row is an immediate or a read of memory. -/
theorem loadsLogicCompares : Obligations.LoadsLogicCompares := by
  intro b1 b2 s hp r hr
  have listed := List.mem_append_left (undocReadRows b1 b2) (List.mem_append_left (sumRows b1 b2) hr)
  refine readsAs_of_row hp ?_ (source_sound b1 b2 r listed) (readOp_regular b1 b2 r listed)
  rcases List.mem_append.1 hr with hr | hr
  · rcases List.mem_append.1 hr with hr | hr
    · exact readRow_loadRows b1 b2 s r hr
    · exact readRow_logicRows b1 b2 s r hr
  · exact readRow_compareRows b1 b2 s r hr

/-- Settles O14: as the loads, with the sums as operations. -/
theorem sums : Obligations.Sums := by
  intro b1 b2 s hp r hr
  have listed := List.mem_append_left (undocReadRows b1 b2)
    (List.mem_append_right (loadRows b1 b2 ++ logicRows b1 b2 ++ compareRows b1 b2) hr)
  exact readsAs_of_row hp (readRow_sumRows b1 b2 s r hr) (source_sound b1 b2 r listed) (readOp_regular b1 b2 r listed)

/-- Settles O15: as the loads; ARR looks at D first. -/
theorem undocumentedReads : Obligations.UndocumentedReads := by
  intro b1 b2 s hu
  refine ⟨fun hp r hr => ?rows, fun hd => ?binary, fun hd => ?decimal⟩
  case rows =>
    have listed := List.mem_append_right (loadRows b1 b2 ++ logicRows b1 b2 ++ compareRows b1 b2 ++ sumRows b1 b2) hr
    exact readsAs_of_row hp (readRow_undocReadRows b1 b2 hu r hr) (source_sound b1 b2 r listed)
      (readOp_regular b1 b2 r listed)
  case binary =>
    have runs : exec (.arrImm b1) s = run (arr b1 s) := undoc_of_runs hu _ _ rfl
    have plain : arr b1 s = .ok (s.mapCpu (Cpu.arr b1)) := by simp only [arr, hd]; rfl
    exact ⟨s.mapCpu (Cpu.arr b1), by rw [runs, plain]; rfl, by rw [State.mapCpu_cpu, Cpu.arr_eq], Quiet.mapCpu _ _⟩
  case decimal =>
    have runs : exec (.arrImm b1) s = run (arr b1 s) := undoc_of_runs hu _ _ rfl
    rw [runs, arr, if_pos hd]; rfl

end Sys2Proof.Machine
end

section
/-! PROOFS. The 6507's stores, read-modify-writes, register instructions, branches and JAMs (R174 to R182, R230 to R240,
R265 to R285, R311 to R319, R336, R341). -/

namespace Sys2Proof.Machine

/-! ### Stores -/

/-- A row of a table of stores is as its mode and its register say. -/
def StoreRow (s : State) (r : Instr × Ea × (Cpu → Byte)) : Prop := exec r.1 s = run (storeVia r.2.1 r.2.2 s)

theorem storeRow_storeRows (b1 b2 : Byte) (s : State) : ∀ r ∈ storeRows b1 b2, StoreRow s r := by
  rw [storeRows]
  repeat refine List.forall_mem_cons.2 ⟨rfl, ?_⟩
  exact List.forall_mem_nil _

theorem storeRow_undocStoreRows {s : State} (b1 b2 : Byte) (h : s.runsUndoc) :
    ∀ r ∈ undocStoreRows b1 b2, StoreRow s r := by
  rw [undocStoreRows]
  repeat refine List.forall_mem_cons.2 ⟨undoc_of_runs h _ _ rfl, ?_⟩
  exact List.forall_mem_nil _

theorem storeEa_sound (b1 b2 : Byte) : ∀ r ∈ storeRows b1 b2 ++ undocStoreRows b1 b2, r.2.1.Sound := by
  simp only [storeRows, undocStoreRows, List.cons_append, List.nil_append, List.forall_mem_cons, eaZp_sound, eaZpx_sound,
    eaZpy_sound, eaAbs_sound, eaAbxFixed_sound, eaAbyFixed_sound, eaIzx_sound, eaIzyFixed_sound, List.not_mem_nil,
    false_imp_iff, implies_true, and_self]

/-- The byte stored comes from the observable registers. -/
theorem storeVal_arch (b1 b2 : Byte) :
    ∀ r ∈ storeRows b1 b2 ++ undocStoreRows b1 b2, ∀ k : Cpu, r.2.2 k.arch = r.2.2 k := by
  simp only [storeRows, undocStoreRows, List.cons_append, List.nil_append]
  repeat refine List.forall_mem_cons.2 ⟨fun _ => rfl, ?_⟩
  exact List.forall_mem_nil _

/-- Settles O16: every row is a store through its mode. -/
theorem stores : Obligations.Stores := by
  intro b1 b2 s hp hr hw
  have stored : ∀ r ∈ storeRows b1 b2 ++ undocStoreRows b1 b2, StoreRow s r → StoresAs s r.1 r.2.1 (r.2.2 s.cpu) :=
    fun r listed row => storesAs_of hp hr hw (storeEa_sound b1 b2 r listed) row (fun _ => rfl)
      (storeVal_arch b1 b2 r listed)
  exact ⟨fun r h => stored r (List.mem_append_left _ h) (storeRow_storeRows b1 b2 s r h),
    fun hu r h => stored r (List.mem_append_right _ h) (storeRow_undocStoreRows b1 b2 hu r h)⟩

/-! ### Read-modify-writes -/

/-- A row of a table of read-modify-writes is as its mode and its two operations say. -/
def RmwRow (s : State) (r : Instr × Ea × (Byte → Bool → Byte × Bool) × (Byte → Cpu → Cpu)) : Prop :=
  exec r.1 s = run (rmwVia r.2.1 r.2.2.1 r.2.2.2 s)

theorem rmwRow_rmwRows (b1 b2 : Byte) (s : State) : ∀ r ∈ rmwRows b1 b2, RmwRow s r := by
  rw [rmwRows, flagsNZ_eq_setNZ, ← rolOp_eq, ← rorOp_eq]
  repeat refine List.forall_mem_cons.2 ⟨rfl, ?_⟩
  exact List.forall_mem_nil _

theorem rmwRow_undocRmwRows {s : State} (b1 b2 : Byte) (h : s.runsUndoc) : ∀ r ∈ undocRmwRows b1 b2, RmwRow s r := by
  simp only [undocRmwRows, intoA_eq_loadA, comparing_eq_compare, ← rolOp_eq, ← rorOp_eq]
  repeat refine List.forall_mem_cons.2 ⟨undoc_of_runs h _ _ rfl, ?_⟩
  exact List.forall_mem_nil _

theorem rmwEa_sound (b1 b2 : Byte) : ∀ r ∈ rmwRows b1 b2 ++ undocRmwRows b1 b2, r.2.1.Sound := by
  simp only [rmwRows, undocRmwRows, List.cons_append, List.nil_append, List.forall_mem_cons, eaZp_sound, eaZpx_sound,
    eaAbs_sound, eaAbxFixed_sound, eaAbyFixed_sound, eaIzx_sound, eaIzyFixed_sound, List.not_mem_nil, false_imp_iff,
    implies_true, and_self]

theorem rmwPost_regular (b1 b2 : Byte) : ∀ r ∈ rmwRows b1 b2 ++ undocRmwRows b1 b2, ∀ m, Cpu.Regular (r.2.2.2 m) := by
  simp only [rmwRows, undocRmwRows, List.cons_append, List.nil_append]
  repeat refine List.forall_mem_cons.2 ⟨fun _ _ => rfl, ?_⟩
  exact List.forall_mem_nil _

/-- Settles O17: every row is a read-modify-write through its mode. -/
theorem readModifyWrites : Obligations.ReadModifyWrites := by
  intro b1 b2 s hp hr hw
  have modified : ∀ r ∈ rmwRows b1 b2 ++ undocRmwRows b1 b2, RmwRow s r → ModifiesAs s r.1 r.2.1 r.2.2.1 r.2.2.2 :=
    fun r listed row => modifiesAs_of hp hr hw (rmwEa_sound b1 b2 r listed) row rfl (fun _ _ => rfl)
      (rmwPost_regular b1 b2 r listed)
  exact ⟨fun r h => modified r (List.mem_append_left _ h) (rmwRow_rmwRows b1 b2 s r h),
    fun hu r h => modified r (List.mem_append_right _ h) (rmwRow_undocRmwRows b1 b2 hu r h)⟩

/-! ### Register instructions -/

/-- A transfer, increment or flag instruction is its operation after one dummy read. -/
theorem exec_impliedRows (s : State) : ∀ r ∈ impliedRows, exec r.1 s = run (implied r.2 s) := by
  simp only [impliedRows, intoA_eq_loadA, intoX_eq_loadX, intoY_eq_loadY]
  repeat refine List.forall_mem_cons.2 ⟨rfl, ?_⟩
  exact List.forall_mem_nil _

theorem impliedOp_regular : ∀ r ∈ impliedRows, Cpu.Regular r.2 := by
  rw [impliedRows]
  repeat refine List.forall_mem_cons.2 ⟨fun _ => rfl, ?_⟩
  exact List.forall_mem_nil _

/-- A shift of the accumulator, as the statements write it. -/
def shiftingA (f : Byte → Bool → Byte × Bool) (k : Cpu) : Cpu := { intoA (f k.a k.c).1 k with c := (f k.a k.c).2 }

theorem Cpu.onA_eq (f : Byte → Bool → Byte × Bool) (k : Cpu) : k.onA f = shiftingA f k := by
  rw [Cpu.onA, Cpu.setNZ_eq]; rfl

theorem exec_shiftARows (s : State) : ∀ r ∈ shiftARows, exec r.1 s = run (implied (Cpu.onA r.2) s) := by
  rw [shiftARows, ← rolOp_eq, ← rorOp_eq]
  repeat refine List.forall_mem_cons.2 ⟨rfl, ?_⟩
  exact List.forall_mem_nil _

theorem exec_undocNopRows {s : State} (h : s.runsUndoc) : ∀ i ∈ undocNopRows, exec i s = run (implied id s) := by
  rw [undocNopRows]
  repeat refine List.forall_mem_cons.2 ⟨undoc_of_runs h _ _ rfl, ?_⟩
  exact List.forall_mem_nil _

/-- Settles O18: every row is one operation on the registers after a dummy read. -/
theorem registerInstructions : Obligations.RegisterInstructions := by
  intro s hp
  refine ⟨fun r hr => ?implied, fun r hr => ?shifts, fun hu i hi => ?nops⟩
  case implied =>
    exact registersOnly_implied hp (exec_impliedRows s r hr) (fun _ => rfl) (impliedOp_regular r hr)
  case shifts =>
    exact registersOnly_implied (op := shiftingA r.2) hp (exec_shiftARows s r hr) (Cpu.onA_eq r.2) (fun _ => rfl)
  case nops =>
    exact registersOnly_implied (op := id) hp (exec_undocNopRows hu i hi) (fun _ => rfl) (fun _ => rfl)

/-! ### Branches -/

/-- The target of a branch: the signed offset from the PC after the branch, modulo 65536 (R145). -/
theorem branchTo_eq (pcn : Addr) (off : Byte) : branchTo pcn off = BitVec.ofInt 16 (pcn.toNat + off.toInt) := by
  rw [branchTo, BitVec.ofInt_add, BitVec.ofInt_natCast, BitVec.ofNat_toNat, BitVec.setWidth_eq]
  rfl

theorem exec_branchRows (b1 : Byte) (s : State) : ∀ r ∈ branchRows b1, exec r.1 s = run (branch r.2 b1 s) := by
  rw [branchRows]
  repeat refine List.forall_mem_cons.2 ⟨rfl, ?_⟩
  exact List.forall_mem_nil _

theorem Cpu.setPC_regular (v : Addr) : Cpu.Regular (Cpu.setPC v) := fun _ => rfl

/-- Settles O19: a branch sets the PC alone. -/
theorem branches : Obligations.Branches := by
  intro b1 s hp r hr
  obtain ⟨t, ht, reads⟩ := branch_ok hp r.2 b1
  refine ⟨_, by rw [exec_branchRows b1 s r hr, ht]; rfl, ?_, reads.quiet.trans (Quiet.mapCpu _ _)⟩
  rw [State.mapCpu_cpu, ← branchTo_eq]
  exact (Cpu.setPC_regular _).congr reads.arch

/-! ### JAMs -/

/-- Settles O26: each of the twelve rows is one record update. -/
theorem jams : Obligations.Jams := by
  intro s hu
  rw [jamRows]
  repeat refine List.forall_mem_cons.2 ⟨undoc_of_runs hu _ (fun s => .ok (s.mapCpu Cpu.jam)) rfl, ?_⟩
  exact List.forall_mem_nil _

end Sys2Proof.Machine
end

section
/-! PROOFS. Jumps, subroutines, the trap and the stack instructions of the 6507 (R96, R146, R260 to R264, R275 to R278). -/

namespace Sys2Proof.Machine

/-! ### What a sequence of reads, pulls and pushes leaves -/

/-- The state after reads in which the observable registers changed as given. -/
structure ReadsTo (s t : State) (k : Cpu) : Prop where
  arch : t.cpu.arch = k.arch
  quiet : Quiet s t

theorem ReadsTo.start (s : State) : ReadsTo s s s.cpu := ⟨rfl, .refl s⟩

theorem ReadsTo.reads {s t u : State} {k : Cpu} (h : ReadsTo s t k) (r : Reads t u) : ReadsTo s u k :=
  ⟨r.arch.trans h.arch, h.quiet.trans r.quiet⟩

theorem ReadsTo.mapCpu {s t : State} {k : Cpu} {op : Cpu → Cpu} (h : ReadsTo s t k) (hr : Cpu.Regular op) :
    ReadsTo s (t.mapCpu op) (op k) :=
  ⟨hr.congr h.arch, h.quiet.trans (Quiet.mapCpu _ _)⟩

theorem ReadsTo.sp {s t : State} {k : Cpu} (h : ReadsTo s t k) : t.cpu.sp = k.sp :=
  ((Cpu.arch_iff _ _).1 h.arch).2.2.2.1

theorem ReadsTo.pc {s t : State} {k : Cpu} (h : ReadsTo s t k) : t.cpu.pc = k.pc :=
  ((Cpu.arch_iff _ _).1 h.arch).2.2.2.2.1

theorem ReadsTo.ramByte {s t : State} {k : Cpu} (h : ReadsTo s t k) (a : Addr) : t.ramByte a = s.ramByte a :=
  h.quiet.read _

theorem ReadsTo.registersOnly {s t : State} {i : Instr} {k : Cpu} (h : ReadsTo s t k) (he : exec i s = .next t) :
    RegistersOnly s i k := ⟨t, he, h.arch, h.quiet⟩

theorem Cpu.incSP_regular : Cpu.Regular Cpu.incSP := fun _ => rfl
theorem Cpu.withStatus_regular (p : Byte) : Cpu.Regular (Cpu.withStatus p) := fun _ => rfl

/-- A dummy read on the way. -/
theorem ReadsTo.dummy {s t : State} {k : Cpu} (h : ReadsTo s t k) (hp : s.plainCart) (a : Addr) :
    ∃ u, dummyRead a t = .ok u ∧ ReadsTo s u k := by
  obtain ⟨u, hu, r, -⟩ := dummyRead_reads (h.quiet.plainCart hp) a
  exact ⟨u, hu, h.reads r⟩

/-- A pull on the way: the byte above the stack pointer. -/
theorem ReadsTo.pull {s t : State} {k : Cpu} (h : ReadsTo s t k) (hp : s.plainCart) :
    ∃ x, pull t = .ok x ∧ ReadsTo s x.2 (Cpu.incSP k) ∧
      (inRam (stackAddr (k.sp + 1)) → x.1 = s.ramByte (stackAddr (k.sp + 1))) := by
  obtain ⟨x, hx, r, -, hv⟩ := pull_ok (h.quiet.plainCart hp)
  rw [h.sp, h.ramByte] at hv
  exact ⟨x, hx, (h.mapCpu Cpu.incSP_regular).reads r, hv⟩

/-! ### Jumps -/

/-- Settles O20: the indirect form is the two reads of `loadPC`, whose bytes are those of the program. -/
theorem jumps : Obligations.Jumps := by
  intro b1 b2 s
  refine ⟨rfl, fun hp => ?_⟩
  obtain ⟨l, h, hl, hh, hload, reads, -⟩ := loadPC_ok hp (b2 ++ b1) (b2 ++ (b1 + 1))
  have afterLow : Quiet s l.2 := by
    obtain ⟨x, hx, r, -⟩ := cycleRead_reads hp (b2 ++ b1)
    obtain rfl : x = l := by simpa [hx] using hl
    exact r.quiet
  have runs : exec (.jmpInd b1 b2) s = run (loadPC (b2 ++ b1) (b2 ++ (b1 + 1)) s) := rfl
  refine ⟨l.1, h.1, ((ReadsTo.start s).reads reads).mapCpu (Cpu.setPC_regular _) |>.registersOnly ?_,
    fun v hv => cycleRead_code hp hv hl, fun v hv => ?_⟩
  · rw [runs, hload]; rfl
  · exact cycleRead_code (afterLow.plainCart hp) ((afterLow.codeByte _).trans hv) hh

/-! ### Returns -/

/-- Settles O22: two dummy reads, two pulls, a dummy read, and the increment. -/
theorem subroutineReturn : Obligations.SubroutineReturn := by
  intro s hp
  obtain ⟨t, ht, rt⟩ := (ReadsTo.start s).dummy hp s.cpu.pc
  obtain ⟨u, hu, ru⟩ := rt.dummy hp (stackAddr t.cpu.sp)
  obtain ⟨l, hl, rl, lo⟩ := ru.pull hp
  obtain ⟨h, hh, rh, hi⟩ := rl.pull hp
  have rj := rh.mapCpu (Cpu.setPC_regular (h.1 ++ l.1))
  obtain ⟨w, hw, rw'⟩ := rj.dummy hp (h.2.mapCpu (Cpu.setPC (h.1 ++ l.1))).cpu.pc
  have runs : returnSubroutine s = .ok (w.mapCpu Cpu.incPC) := by
    simp only [returnSubroutine, ht, hu, hl, hh, hw, bind, Except.bind, pure, Except.pure]
  have two : s.cpu.sp + 1 + 1 = s.cpu.sp + 2 := by bv_omega
  have regs := (rw'.mapCpu Cpu.incPC_regular).registersOnly (i := .rts) (show run (returnSubroutine s) = _ by rw [runs]; rfl)
  simp only [Cpu.incSP, two] at hi
  simp only [Cpu.incPC, Cpu.setPC, Cpu.incSP, two] at regs
  exact ⟨l.1, h.1, regs, lo, hi⟩

/-- Settles O24: two dummy reads and three pulls. -/
theorem trapReturn : Obligations.TrapReturn := by
  intro s hp
  obtain ⟨t, ht, rt⟩ := (ReadsTo.start s).dummy hp s.cpu.pc
  obtain ⟨u, hu, ru⟩ := rt.dummy hp (stackAddr t.cpu.sp)
  obtain ⟨p, hpull, rp, status⟩ := ru.pull hp
  obtain ⟨l, hl, rl, lo⟩ := (rp.mapCpu (Cpu.withStatus_regular p.1)).pull hp
  obtain ⟨h, hh, rh, hi⟩ := rl.pull hp
  have runs : returnFromTrap s = .ok (h.2.mapCpu (Cpu.setPC (h.1 ++ l.1))) := by
    simp only [returnFromTrap, ht, hu, hpull, hl, hh, bind, Except.bind, pure, Except.pure]
  have two : s.cpu.sp + 1 + 1 = s.cpu.sp + 2 := by bv_omega
  have three : s.cpu.sp + 2 + 1 = s.cpu.sp + 3 := by bv_omega
  have regs := (rh.mapCpu (Cpu.setPC_regular (h.1 ++ l.1))).registersOnly (i := .rti)
    (show run (returnFromTrap s) = _ by rw [runs]; rfl)
  simp only [Cpu.withStatus_eq, Cpu.incSP, flagsFrom, two, three] at lo hi
  simp only [Cpu.withStatus_eq, Cpu.incSP, Cpu.setPC, flagsFrom, two, three] at regs
  exact ⟨p.1, l.1, h.1, regs, status, lo, hi⟩

/-! ### Pushes -/

/-- Settles O21: one dummy read, two pushes, and the read of the third byte. -/
theorem subroutineCall : Obligations.SubroutineCall := by
  intro b1 b2 s hp hr hw
  obtain ⟨t, ht, rt, -⟩ := dummyRead_reads hp (stackAddr s.cpu.sp)
  obtain ⟨u, hu, pu, cu, ku⟩ := (Pushed.of_quiet rt.quiet).push ((CanPush.mk hp hr hw).reads rt.quiet)
    (t.cpu.pc.extractLsb' 8 8)
  obtain ⟨w, hw, pw, cw, kw⟩ := pu.push cu (u.cpu.pc.extractLsb' 0 8)
  obtain ⟨h, hh, rh, -⟩ := cycleRead_reads cw.plain w.cpu.pc
  have runs : exec (.jsrAbs b1 b2) s = .next (h.2.mapCpu (Cpu.setPC (h.1 ++ b1))) := by
    show run (jumpSubroutine b1 s) = _
    simp only [jumpSubroutine, ht, hu, hw, hh, bind, Except.bind, pure, Except.pure]; rfl
  have upc : u.cpu.pc = s.cpu.pc := by rw [ku]; exact rt.pc
  have usp : u.cpu.sp = s.cpu.sp - 1 := by rw [ku, ← rt.sp]
  have wpc : w.cpu.pc = s.cpu.pc := by rw [kw]; exact upc
  have two : s.cpu.sp - 1 - 1 = s.cpu.sp - 2 := by bv_omega
  refine ⟨_, h.1, runs, ?_, fun v hv => ?_, ?_⟩
  · have archU : u.cpu.arch = ({ s.cpu with sp := s.cpu.sp - 1 } : Cpu).arch := by
      rw [ku]; exact (show Cpu.Regular Cpu.decSP from fun _ => rfl).congr rt.arch
    have archW : w.cpu.arch = ({ s.cpu with sp := s.cpu.sp - 2 } : Cpu).arch := by
      rw [kw, ← two]; exact (show Cpu.Regular Cpu.decSP from fun _ => rfl).congr archU
    exact (Cpu.setPC_regular (h.1 ++ b1)).congr (rh.arch.trans archW)
  · refine cycleRead_code cw.plain ?_ hh
    rw [wpc, ← hv]
    exact ((rh.quiet.trans (Quiet.mapCpu h.2 _)).codeByte s.cpu.pc).symm
  · have pushed := (pw.reads rh.quiet).reads (Quiet.mapCpu h.2 (Cpu.setPC (h.1 ++ b1)))
    rw [rt.sp, usp, upc, rt.pc] at pushed
    exact pushed

end Sys2Proof.Machine
end

section
/-! PROOFS. The address ranges of the bus, and its read and write cycles (R81 to R92, R720, R721). -/

namespace Sys2Proof.Machine

/-! ### Ranges -/

theorem busAddr_toNat (a : Addr) : (busAddr a).toNat = a.toNat % 0x2000 := BitVec.toNat_setWidth 13 a

theorem ramIndex_eq (a : BusAddr) : ramIndex a = a.toNat % 0x80 := BitVec.toNat_setWidth 7 a

theorem cartOffset_toNat (a : BusAddr) : (cartOffset a).toNat = a.toNat % 0x1000 := BitVec.toNat_setWidth 12 a

/-- The RAM cell of a CPU address: the bus drops bits above those of the cell. -/
theorem ramIndex_busAddr (a : Addr) : ramIndex (busAddr a) = a.toNat % 0x80 := by
  rw [ramIndex_eq, busAddr_toNat]
  exact Nat.mod_mod_of_dvd _ (by decide)

theorem cartOffset_busAddr (a : Addr) : (cartOffset (busAddr a)).toNat = a.toNat % 0x1000 := by
  rw [cartOffset_toNat, busAddr_toNat]
  exact Nat.mod_mod_of_dvd _ (by decide)

theorem rangeOf_cartridge {a : BusAddr} (h : a.getLsbD 12 = true) : rangeOf a = .cartridge := by simp only [rangeOf, h, if_true]

theorem rangeOf_tia {a : BusAddr} (h : a.getLsbD 12 = false) (h7 : a.getLsbD 7 = false) : rangeOf a = .tia := by
  simp only [rangeOf, h, h7, Bool.not_false, if_true, Bool.false_eq_true, if_false]

theorem rangeOf_ram {a : BusAddr} (h : a.getLsbD 12 = false) (h7 : a.getLsbD 7 = true) (h9 : a.getLsbD 9 = false) :
    rangeOf a = .ram := by
  simp only [rangeOf, h, h7, h9, Bool.not_true, Bool.not_false, if_true, Bool.false_eq_true, if_false]

theorem rangeOf_riotIo {a : BusAddr} (h : a.getLsbD 12 = false) (h7 : a.getLsbD 7 = true) (h9 : a.getLsbD 9 = true) :
    rangeOf a = .riotIo := by
  simp only [rangeOf, h, h7, h9, Bool.not_true, Bool.false_eq_true, if_false]

/-! ### Zero page and stack page -/

theorem zp_toNat (b : Byte) : (zp b).toNat = b.toNat := by
  rw [zp, BitVec.toNat_append]; exact Nat.zero_or _

theorem stackAddr_toNat (b : Byte) : (stackAddr b).toNat = 256 + b.toNat := by
  rw [stackAddr, BitVec.toNat_append, ← Nat.shiftLeft_add_eq_or_of_lt b.isLt]; rfl

/-- The bits of a page address that the ranges look at, for a page below 2. -/
theorem getLsbD_busAddr_page (page : Byte) (hpage : page.toNat < 2) (b : Byte) :
    (busAddr (page ++ b)).getLsbD 12 = false ∧ (busAddr (page ++ b)).getLsbD 9 = false ∧
      (busAddr (page ++ b)).getLsbD 7 = b.getLsbD 7 := by
  have high : ∀ i, 1 ≤ i → page.getLsbD i = false := fun i hi =>
    BitVec.testBit_toNat page ▸
      Nat.testBit_lt_two_pow (lt_of_lt_of_le hpage (Nat.pow_le_pow_right (n := 2) (by decide) hi))
  simp only [busAddr, BitVec.getLsbD_setWidth, BitVec.getLsbD_append]
  exact ⟨high 4 (by decide), high 1 (by decide), rfl⟩

theorem bit7_of_le {b : Byte} (h : 0x80 ≤ b.toNat) : b.getLsbD 7 = true := by
  rw [← BitVec.msb_eq_getLsbD_last b, BitVec.msb_eq_decide]; exact decide_eq_true h

theorem bit7_of_lt {b : Byte} (h : b.toNat < 0x80) : b.getLsbD 7 = false := by
  rw [← BitVec.msb_eq_getLsbD_last b, BitVec.msb_eq_decide]; exact decide_eq_false (Nat.not_le.2 h)

theorem inRam_page {page b : Byte} (hpage : page.toNat < 2) (h : 0x80 ≤ b.toNat) : inRam (page ++ b) := by
  obtain ⟨h12, h9, h7⟩ := getLsbD_busAddr_page page hpage b
  exact rangeOf_ram h12 (h7.trans (bit7_of_le h)) h9

theorem rangeOf_page_tia {page b : Byte} (hpage : page.toNat < 2) (h : b.toNat < 0x80) :
    rangeOf (busAddr (page ++ b)) = .tia := by
  obtain ⟨h12, -, h7⟩ := getLsbD_busAddr_page page hpage b
  exact rangeOf_tia h12 (h7.trans (bit7_of_lt h))

theorem inRam_zp {b : Byte} (h : 0x80 ≤ b.toNat) : inRam (zp b) := inRam_page (by decide) h
theorem inRam_stackAddr {b : Byte} (h : 0x80 ≤ b.toNat) : inRam (stackAddr b) := inRam_page (by decide) h

theorem ramIndex_zp (b : Byte) : ramIndex (busAddr (zp b)) = b.toNat % 0x80 := by rw [ramIndex_busAddr, zp_toNat]

theorem ramIndex_stackAddr (b : Byte) : ramIndex (busAddr (stackAddr b)) = b.toNat % 0x80 := by
  rw [ramIndex_busAddr, stackAddr_toNat]; omega

/-- Settles O9: the three bits decide the range, and both pages leave them to the byte. -/
theorem addressRanges : Obligations.AddressRanges := by
  refine ⟨busAddr_toNat, fun a => ?ranges, fun b => ?pages⟩
  case ranges =>
    exact ⟨fun h => ⟨rangeOf_cartridge h, cartOffset_toNat a⟩, rangeOf_tia,
      fun h h7 h9 => ⟨rangeOf_ram h h7 h9, ramIndex_eq a⟩, rangeOf_riotIo⟩
  case pages =>
    exact ⟨fun h => ⟨inRam_zp h, inRam_stackAddr h, (ramIndex_zp b).trans (ramIndex_stackAddr b).symm⟩,
      fun h => ⟨rangeOf_page_tia (by decide) h, rangeOf_page_tia (by decide) h⟩⟩

/-! ### Read cycles -/

theorem State.undriven_eq (s : State) :
    s.undriven = if s.params.tiaUndriven = .lastData then s.bus.lastData else 0x00 := by
  unfold State.undriven
  cases s.params.tiaUndriven <;> rfl

/-- The bits of a TIA read: two from the register, the others undriven (R89). -/
theorem Tia.read_bits (steps : Nat) (t : Tia) (reg : BitVec 4) (u : Byte) :
    ((t.read steps reg u).getLsbD 7, (t.read steps reg u).getLsbD 6) = t.readBits steps reg ∧
      ∀ j, j < 6 → (t.read steps reg u).getLsbD j = u.getLsbD j := by
  simp only [Tia.read, BitVec.getLsbD_append, BitVec.getLsbD_extractLsb', BitVec.getLsbD_ofBool]
  refine ⟨by simp, fun j hj => ?_⟩
  simp [hj]

/-- The TIA register a CPU address selects. -/
theorem setWidth_busAddr_four (a : Addr) : (busAddr a).setWidth 4 = a.setWidth 4 :=
  BitVec.setWidth_setWidth_of_le a (by decide)

theorem State.deviceRead_tia {s : State} {a : BusAddr} (h : rangeOf a = .tia) :
    (s.deviceRead a).1 = s.tia.read s.riot.steps (a.setWidth 4) s.undriven := by
  simp only [State.deviceRead, h]

/-- Settles O10: the cycle without a wait, and what each range answers. -/
theorem readCycle : Obligations.ReadCycle := by
  intro s a hp hwsync
  obtain ⟨n, x, hx, value, cpu, quiet, steps, bus, wait⟩ := cycleRead_plain hp a
  obtain rfl : n = 0 := wait hwsync
  rw [State.idle_zero] at value
  refine ⟨x, hx, cpu, bus, quiet, steps, fun hram => ?ram, fun h12 hflat => ?rom, fun htia => ?tia⟩
  case ram =>
    rw [cycleRead_ram hp hram hx, State.ramByte, ramIndex_busAddr]
  case rom =>
    have hb : (busAddr a).getLsbD 12 = true := (BitVec.getLsbD_setWidth 13 a 12).trans h12
    have code : s.codeByte a = some (s.mapper.flatByte (cartOffset (busAddr a))) := by
      simp only [State.codeByte, rangeOf_cartridge hb, hflat, if_true]
    rw [cycleRead_code hp code hx, Mapper.flatByte, cartOffset_busAddr]
  case tia =>
    rw [value, State.deviceRead_tia htia, setWidth_busAddr_four, ← State.undriven_eq]
    exact Tia.read_bits _ _ _ _

/-! ### Write cycles -/

/-- Settles O11: the cycle stores its byte, and RAM is read back by its index. -/
theorem writeCycle : Obligations.WriteCycle := by
  intro s a v hp hr hw
  obtain ⟨t, ht, st⟩ := cycleWrite_plain hp hr a v
  refine ⟨t, ht, st.cpu, st.outside, st.bus, st.steps, st.ram hw, st.tia, fun h => ?ticks, fun b ha hb => ?mirror⟩
  case ticks =>
    rw [(st.elapsed h).ticks, st.steps, Nat.add_sub_cancel_left]
  case mirror =>
    obtain ⟨x, hx, -⟩ := cycleRead_quiet (st.plainCart hp) b
    refine ⟨x, hx, ?_⟩
    rw [cycleRead_ram (st.plainCart hp) hb hx, State.ramByte, st.ram hw]
    have hrange : rangeOf (busAddr a) = .ram := ha
    simp only [storeRam, hrange, true_and, eq_comm (a := ramIndex (busAddr b))]
    rfl

end Sys2Proof.Machine
end

section
/-! PROOFS. The trap, the stack instructions, and the two linkages (R26, R261 to R264, R275 to R278, R653, R654). -/

namespace Sys2Proof.Machine

/-! ### A run of pushes -/

/-- The state after reads and pushes in which the observable registers changed as given, with room for `n` more pushes. -/
structure PushesTo (n : Nat) (s t : State) (ws : List (Addr × Byte)) (k : Cpu) : Prop where
  arch : t.cpu.arch = k.arch
  pushed : Pushed s t ws
  can : CanPush n t

theorem Cpu.decSP_regular : Cpu.Regular Cpu.decSP := fun _ => rfl

theorem PushesTo.sp {n : Nat} {s t : State} {ws : List (Addr × Byte)} {k : Cpu} (h : PushesTo n s t ws k) :
    t.cpu.sp = k.sp := ((Cpu.arch_iff _ _).1 h.arch).2.2.2.1

theorem PushesTo.pc {n : Nat} {s t : State} {ws : List (Addr × Byte)} {k : Cpu} (h : PushesTo n s t ws k) :
    t.cpu.pc = k.pc := ((Cpu.arch_iff _ _).1 h.arch).2.2.2.2.1

theorem PushesTo.start {n : Nat} {s t : State} {k : Cpu} (c : CanPush n s) (h : ReadsTo s t k) : PushesTo n s t [] k :=
  ⟨h.arch, .of_quiet h.quiet, c.reads h.quiet⟩

/-- One more push. -/
theorem PushesTo.push {n : Nat} {s t : State} {ws : List (Addr × Byte)} {k : Cpu} (h : PushesTo (n + 1) s t ws k)
    (v : Byte) : ∃ u, push v t = .ok u ∧ PushesTo n s u (ws ++ [(stackAddr k.sp, v)]) (Cpu.decSP k) := by
  obtain ⟨u, hu, pu, cu, ku⟩ := h.pushed.push h.can v
  rw [h.sp] at pu
  refine ⟨u, hu, ?_, pu, cu⟩
  rw [ku]
  exact Cpu.decSP_regular.congr h.arch

theorem PushesTo.mapCpu {n : Nat} {s t : State} {ws : List (Addr × Byte)} {k : Cpu} {op : Cpu → Cpu}
    (h : PushesTo n s t ws k) (hr : Cpu.Regular op) : PushesTo n s (t.mapCpu op) ws (op k) :=
  ⟨hr.congr h.arch, h.pushed.reads (Quiet.mapCpu _ _), h.can.reads (Quiet.mapCpu _ _)⟩

/-! ### The trap -/

theorem Cpu.status_arch {k l : Cpu} (h : k.arch = l.arch) : k.status = l.status := (congrArg Cpu.status h : k.arch.status = l.arch.status)

/-- The pushed status byte as a number (R26). -/
theorem Cpu.status_eq_ofNat (k : Cpu) : k.status = BitVec.ofNat 8 (128 * k.n.toNat + 64 * k.v.toNat + 32 + 16 +
    8 * k.d.toNat + 4 * k.i.toNat + 2 * k.z.toNat + k.c.toNat) := by
  have finite : ∀ n v d i z c : Bool,
      BitVec.ofBool n ++ BitVec.ofBool v ++ 1#1 ++ 1#1 ++ BitVec.ofBool d ++ BitVec.ofBool i ++ BitVec.ofBool z ++
        BitVec.ofBool c = BitVec.ofNat 8 (128 * n.toNat + 64 * v.toNat + 32 + 16 + 8 * d.toNat + 4 * i.toNat +
          2 * z.toNat + c.toNat) := by decide
  exact finite k.n k.v k.d k.i k.z k.c

theorem Cpu.putI_regular (b : Bool) : Cpu.Regular (Cpu.putI b) := fun _ => rfl

/-- Pushes to the stack page change no program byte of the vectors. -/
theorem PushesTo.codeByte_cartridge {n : Nat} {s t : State} {ws : List (Addr × Byte)} {k : Cpu}
    (h : PushesTo n s t ws k) {a : Addr} (ha : rangeOf (busAddr a) = .cartridge) : t.codeByte a = s.codeByte a := by
  simp only [State.codeByte, ha, h.pushed.outside.variant]
  split
  · rename_i flat
    simp only [Mapper.flatByte, h.pushed.outside.flat flat]
  · rfl

/-- Settles O23: the padding byte is fetched, three bytes are pushed, and the PC is loaded from the vector. -/
theorem breakTrap : Obligations.BreakTrap := by
  intro s hp hr hw
  obtain ⟨x, -, hx, rx, -⟩ := fetchByte_ok hp
  have r0 := ((ReadsTo.start s).reads rx).mapCpu Cpu.incPC_regular
  obtain ⟨a, ha, pa⟩ := (PushesTo.start (CanPush.mk hp hr hw) r0).push ((x.2.mapCpu Cpu.incPC).cpu.pc.extractLsb' 8 8)
  obtain ⟨b, hb, pb⟩ := pa.push (a.cpu.pc.extractLsb' 0 8)
  obtain ⟨c, hc, pc⟩ := pb.push b.cpu.status
  have pi := pc.mapCpu (Cpu.putI_regular true)
  obtain ⟨l, h, hl, hh, hload, reads, -⟩ := loadPC_ok pi.can.plain 0xFFFE 0xFFFF
  have runs : takeBreak s = .ok (h.2.mapCpu (Cpu.setPC (h.1 ++ l.1))) := by
    simp only [takeBreak, hx, ha, hb, hc, bind, Except.bind]
    exact hload
  have afterLow : Quiet (c.mapCpu (Cpu.putI true)) l.2 := by
    obtain ⟨y, hy, ry, -⟩ := cycleRead_reads pi.can.plain 0xFFFE
    obtain rfl : y = l := Except.ok.inj (hy.symm.trans hl)
    exact ry.quiet
  have runsB : exec .brk s = .next (h.2.mapCpu (Cpu.setPC (h.1 ++ l.1))) := by
    show run (takeBreak s) = _; rw [runs]; rfl
  have two : s.cpu.sp - 1 - 1 = s.cpu.sp - 2 := by bv_omega
  have three : s.cpu.sp - 2 - 1 = s.cpu.sp - 3 := by bv_omega
  refine ⟨_, l.1, h.1, runsB, ?arch, fun v hv => ?low, fun v hv => ?high, ?pushed⟩
  case arch =>
    have arch := (Cpu.setPC_regular (h.1 ++ l.1)).congr (reads.arch.trans pi.arch)
    simp only [Cpu.decSP, Cpu.incPC, Cpu.putI, Cpu.setPC, two, three] at arch
    exact arch
  case low => exact cycleRead_code pi.can.plain ((pi.codeByte_cartridge (by decide)).trans hv) hl
  case high =>
    refine cycleRead_code (afterLow.plainCart pi.can.plain) ?_ hh
    rw [afterLow.codeByte, pi.codeByte_cartridge (by decide), hv]
  case pushed =>
    have pushed := (pi.pushed.reads reads.quiet).reads (Quiet.mapCpu h.2 (Cpu.setPC (h.1 ++ l.1)))
    have status : b.cpu.status = s.cpu.status := (Cpu.status_arch pb.arch).trans rfl
    rw [status, Cpu.status_eq_ofNat, pa.pc, r0.pc] at pushed
    simp only [Cpu.decSP, Cpu.incPC, two, List.nil_append, List.cons_append] at pushed
    exact pushed

/-! ### The stack instructions -/

/-- A push after a dummy read. -/
theorem pushRegister_ok {s : State} (hp : s.plainCart) (hr : s.room 1) (hw : s.riot.ram.wf = true) {val : Cpu → Byte}
    (hv : ∀ k, val k.arch = val k) : ∃ m t, pushRegister val s = .ok t ∧
      PushesTo 0 s t [(stackAddr s.cpu.sp, val s.cpu)] (Cpu.decSP s.cpu) ∧ Quiet s m ∧
      (rangeOf (busAddr (stackAddr s.cpu.sp)) = .tia →
        TiaWritten s.params (stackAddr s.cpu.sp) (val s.cpu) m.tia t.tia) := by
  obtain ⟨m, hm, rm⟩ := (ReadsTo.start s).dummy hp s.cpu.pc
  have value : val m.cpu = val s.cpu := by rw [← hv m.cpu, rm.arch, hv]
  obtain ⟨t, ht, pt⟩ := (PushesTo.start (n := 1) (CanPush.mk hp hr hw) rm).push (val s.cpu)
  obtain ⟨u, hu, stored⟩ := push_ok (rm.quiet.plainCart hp) (rm.quiet.room hr) (val s.cpu)
  obtain rfl : t = u.mapCpu Cpu.decSP := by simpa [ht] using hu
  rw [rm.sp] at stored
  refine ⟨m, _, ?_, pt, rm.quiet, fun htia => ?_⟩
  · simp only [pushRegister, hm, bind, Except.bind, value]; exact ht
  · rw [← rm.quiet.outside.params]; exact stored.tia htia

/-- A pull after two dummy reads. -/
theorem pullInto_ok {s : State} (hp : s.plainCart) {op : Byte → Cpu → Cpu} (hr : ∀ v, Cpu.Regular (op v)) :
    ∃ v t, pullInto op s = .ok t ∧ ReadsTo s t (op v (Cpu.incSP s.cpu)) ∧
      (inRam (stackAddr (s.cpu.sp + 1)) → v = s.ramByte (stackAddr (s.cpu.sp + 1))) := by
  obtain ⟨t, ht, rt⟩ := (ReadsTo.start s).dummy hp s.cpu.pc
  obtain ⟨u, hu, ru⟩ := rt.dummy hp (stackAddr t.cpu.sp)
  obtain ⟨x, hx, rx, value⟩ := ru.pull hp
  exact ⟨x.1, _, by simp only [pullInto, ht, hu, hx, bind, Except.bind, pure, Except.pure], rx.mapCpu (hr x.1), value⟩

/-- Settles O25: two pushes and two pulls, each one of two shapes. -/
theorem stackInstructions : Obligations.StackInstructions := by
  intro s hp
  refine ⟨?pushes, ?pulls⟩
  case pushes =>
    have pushing : ∀ (i : Instr) (val : Cpu → Byte), exec i s = run (pushRegister val s) → (∀ k, val k.arch = val k) →
        s.room 1 → s.riot.ram.wf = true → ∃ m t, exec i s = .next t ∧
          t.cpu.arch = ({ s.cpu with sp := s.cpu.sp - 1 } : Cpu).arch ∧
          Pushed s t [(stackAddr s.cpu.sp, val s.cpu)] ∧ Quiet s m ∧
          (rangeOf (busAddr (stackAddr s.cpu.sp)) = .tia →
            TiaWritten s.params (stackAddr s.cpu.sp) (val s.cpu) m.tia t.tia) := by
      intro i val he hv hr hw
      obtain ⟨m, t, ht, pt, quiet, tia⟩ := pushRegister_ok hp hr hw hv
      exact ⟨m, t, by rw [he, ht]; rfl, pt.arch, pt.pushed, quiet, tia⟩
    exact List.forall_mem_cons.2 ⟨pushing .pha Cpu.a rfl fun _ => rfl,
      List.forall_mem_singleton.2 (pushing .php Cpu.status rfl fun _ => rfl)⟩
  case pulls =>
    have pulling : ∀ (i : Instr) (op : Byte → Cpu → Cpu), exec i s = run (pullInto op s) → (∀ v, Cpu.Regular (op v)) →
        (∀ v, op v (Cpu.incSP s.cpu) = { op v s.cpu with sp := s.cpu.sp + 1 }) →
        ∃ v, RegistersOnly s i { op v s.cpu with sp := s.cpu.sp + 1 } ∧
          (inRam (stackAddr (s.cpu.sp + 1)) → v = s.ramByte (stackAddr (s.cpu.sp + 1))) := by
      intro i op he hr hsp
      obtain ⟨v, t, ht, rt, value⟩ := pullInto_ok hp hr
      exact ⟨v, hsp v ▸ rt.registersOnly (by rw [he, ht]; rfl), value⟩
    rw [intoA_eq_loadA]
    exact List.forall_mem_cons.2 ⟨pulling .pla Cpu.loadA rfl (fun _ _ => rfl) fun _ => rfl,
      List.forall_mem_singleton.2 (pulling .plp flagsFrom rfl (fun _ _ => rfl) fun _ => rfl)⟩

end Sys2Proof.Machine
end

section
/-! PROOFS. The two linkages: what a call or a trap pushed is what the return pulls (R26, R84, R261 to R264). -/

namespace Sys2Proof.Machine

/-- A stack byte in RAM after a push: the pushed one at its own stack pointer, the old one at another. -/
theorem storeRam_stackAddr {b c : Byte} (hb : 0x80 ≤ b.toNat) (hc : 0x80 ≤ c.toNat) (v : Byte) (ram : Nat → Byte) :
    storeRam (stackAddr b) v ram (ramIndex (busAddr (stackAddr c))) =
      if c = b then v else ram (ramIndex (busAddr (stackAddr c))) := by
  have hr : rangeOf (busAddr (stackAddr b)) = .ram := inRam_stackAddr hb
  have same : ramIndex (busAddr (stackAddr c)) = ramIndex (busAddr (stackAddr b)) ↔ c = b := by
    rw [ramIndex_stackAddr, ramIndex_stackAddr, ← BitVec.toNat_inj]; omega
  simp only [storeRam, hr, true_and, same]

/-- What a state after pushes holds at a stack address. -/
theorem Pushed.ramByte {s t : State} {ws : List (Addr × Byte)} (h : Pushed s t ws) (a : Addr) :
    t.ramByte a = (ws.foldl (fun ram w => storeRam w.1 w.2 ram) s.riot.ram.read) (ramIndex (busAddr a)) := h.ram _

/-- A word from its two bytes. -/
theorem append_bytes (v : Addr) : v.extractLsb' 8 8 ++ v.extractLsb' 0 8 = v := by
  refine BitVec.eq_of_getLsbD_eq fun i hi => ?_
  rw [BitVec.getLsbD_append, BitVec.getLsbD_extractLsb', BitVec.getLsbD_extractLsb']
  by_cases low : i < 8
  · simp [low]
  · have high : i - 8 < 8 ∧ 8 + (i - 8) = i := by omega
    simp [low, high]

/-- Settles O31: RTS pulls the two bytes that JSR pushed. -/
theorem subroutineLinkage : Obligations.SubroutineLinkage := by
  intro s t m b1 b2 hs hm hw hr hsp hjsr sp kept
  obtain ⟨t', hi, ht', arch, -, pushed⟩ := subroutineCall b1 b2 s hs hr hw
  obtain rfl : t' = t := Host.Outcome.next.inj (ht'.symm.trans hjsr)
  obtain ⟨lo', hi', regs, hlo, hhi⟩ := subroutineReturn m hm
  have msp : m.cpu.sp = s.cpu.sp - 2 := sp.trans ((Cpu.arch_iff _ _).1 arch).2.2.2.1
  have below : (s.cpu.sp - 1).toNat = s.cpu.sp.toNat - 1 := by bv_omega
  have first : s.cpu.sp - 2 + 1 = s.cpu.sp - 1 := by bv_omega
  have second : s.cpu.sp - 2 + 2 = s.cpu.sp := by bv_omega
  have ne : s.cpu.sp ≠ s.cpu.sp - 1 := by bv_omega
  rw [msp, first] at hlo
  rw [msp, second] at hhi
  have lo : lo' = s.cpu.pc.extractLsb' 0 8 := by
    rw [hlo (inRam_stackAddr (by omega)), kept _ (.inr rfl), pushed.ramByte]
    simp only [List.foldl_cons, List.foldl_nil]
    rw [storeRam_stackAddr (by omega) (by omega), if_pos rfl]
  have high : hi' = s.cpu.pc.extractLsb' 8 8 := by
    rw [hhi (inRam_stackAddr (by omega)), kept _ (.inl rfl), pushed.ramByte]
    simp only [List.foldl_cons, List.foldl_nil]
    rw [storeRam_stackAddr (by omega) (by omega), if_neg ne, storeRam_stackAddr (by omega) (by omega), if_pos rfl]
  rw [lo, high, append_bytes, msp, second] at regs
  exact regs

/-- The flags pulled from a pushed status byte are the flags pushed. -/
theorem flagsFrom_status (k l : Cpu) :
    flagsFrom k.status l = { l with n := k.n, v := k.v, d := k.d, i := k.i, z := k.z, c := k.c } := by
  simp only [flagsFrom, Cpu.status_getLsbD]; rfl

/-- Settles O32: RTI pulls the three bytes that BRK pushed. -/
theorem trapLinkage : Obligations.TrapLinkage := by
  intro s t m hs hm hw hr hsp hbrk sp kept
  obtain ⟨t', lo, hi, ht', arch, -, -, pushed⟩ := breakTrap s hs hr hw
  obtain rfl : t' = t := Host.Outcome.next.inj (ht'.symm.trans hbrk)
  obtain ⟨p, lo', hi', regs, hp, hlo, hhi⟩ := trapReturn m hm
  have msp : m.cpu.sp = s.cpu.sp - 3 := sp.trans ((Cpu.arch_iff _ _).1 arch).2.2.2.1
  have below : (s.cpu.sp - 1).toNat = s.cpu.sp.toNat - 1 := by bv_omega
  have below2 : (s.cpu.sp - 2).toNat = s.cpu.sp.toNat - 2 := by bv_omega
  have first : s.cpu.sp - 3 + 1 = s.cpu.sp - 2 := by bv_omega
  have second : s.cpu.sp - 3 + 2 = s.cpu.sp - 1 := by bv_omega
  have third : s.cpu.sp - 3 + 3 = s.cpu.sp := by bv_omega
  have keptTop := kept 0 (by decide)
  rw [show s.cpu.sp - 0 = s.cpu.sp by bv_omega] at keptTop
  have ne1 : s.cpu.sp ≠ s.cpu.sp - 1 := by bv_omega
  have ne2 : s.cpu.sp ≠ s.cpu.sp - 2 := by bv_omega
  have ne12 : s.cpu.sp - 1 ≠ s.cpu.sp - 2 := by bv_omega
  rw [← Cpu.status_eq_ofNat] at pushed
  rw [msp, first] at hp
  rw [msp, second] at hlo
  rw [msp, third] at hhi
  have status : p = s.cpu.status := by
    rw [hp (inRam_stackAddr (by omega)), kept 2 (by decide), pushed.ramByte]
    simp only [List.foldl_cons, List.foldl_nil]
    rw [storeRam_stackAddr (by omega) (by omega), if_pos rfl]
  have low : lo' = (s.cpu.pc + 1).extractLsb' 0 8 := by
    rw [hlo (inRam_stackAddr (by omega)), kept 1 (by decide), pushed.ramByte]
    simp only [List.foldl_cons, List.foldl_nil]
    rw [storeRam_stackAddr (by omega) (by omega), if_neg ne12, storeRam_stackAddr (by omega) (by omega), if_pos rfl]
  have high : hi' = (s.cpu.pc + 1).extractLsb' 8 8 := by
    rw [hhi (inRam_stackAddr (by omega)), keptTop, pushed.ramByte]
    simp only [List.foldl_cons, List.foldl_nil]
    rw [storeRam_stackAddr (by omega) (by omega), if_neg ne2, storeRam_stackAddr (by omega) (by omega), if_neg ne1,
      storeRam_stackAddr (by omega) (by omega), if_pos rfl]
  rw [status, low, high, append_bytes, msp, third, flagsFrom_status] at regs
  exact regs

end Sys2Proof.Machine
end

section
/-! PROOFS. The effective addresses of the 6507 (R96, R137 to R144, R357 to R362). -/

namespace Sys2Proof.Machine

/-- A 16-bit address from its two bytes. -/
theorem append_bytes_toNat (hi lo : Byte) : (hi ++ lo).toNat = lo.toNat + 256 * hi.toNat := by
  rw [BitVec.toNat_append, ← Nat.shiftLeft_add_eq_or_of_lt lo.isLt, Nat.shiftLeft_eq]; omega

/-- `base + index` modulo 65536 (R141). -/
theorem indexed_toNat (lo hi idx : Byte) :
    ((hi ++ lo) + idx.setWidth 16).toNat = (lo.toNat + 256 * hi.toNat + idx.toNat) % 65536 := by
  rw [BitVec.toNat_add, append_bytes_toNat, BitVec.toNat_setWidth_of_le (by decide)]

theorem pageCrossed_eq (lo idx : Byte) : pageCrossed lo idx = decide (256 ≤ lo.toNat + idx.toNat) := rfl

theorem zeroPage_toNat (b : Byte) : (0x00#8 ++ b).toNat = b.toNat := zp_toNat b

/-- `(zp,X)`: the pointer is read at the wrapped sum (R143). -/
theorem eaIzx_address {s : State} (hp : s.plainCart) (b1 : Byte) :
    ∃ e, eaIzx b1 s = .ok e ∧ Delivers s e 3 ∧
      (inRam (zp (b1 + s.cpu.x)) → inRam (zp (b1 + s.cpu.x + 1)) →
        e.1 = s.ramByte (zp (b1 + s.cpu.x + 1)) ++ s.ramByte (zp (b1 + s.cpu.x))) := by
  obtain ⟨t, ht, rt, tt⟩ := dummyRead_reads hp (zp b1)
  obtain ⟨q, hq, rq, tq, low, high⟩ := readPointer_ok (rt.plainCart hp) (b1 + t.cpu.x)
  obtain ⟨-, hx, -⟩ := rt.fields
  have kept : ∀ a, t.ramByte a = s.ramByte a := fun a => rt.quiet.read _
  refine ⟨deliver (q.2.1 ++ q.1) false q.2.2, by simp only [eaIzx, ht, hq, bind, Except.bind, pure, Except.pure],
    deliver_delivers (rt.trans rq) (by rw [tq, tt]) _ _, fun hlow hhigh => ?_⟩
  rw [hx, kept] at low high
  rw [← low hlow, ← high hhigh]
  rfl

/-- `(zp),Y` of a read (R144). -/
theorem eaIzyRead_address {s : State} (hp : s.plainCart) (b1 : Byte) :
    ∃ e, eaIzyRead b1 s = .ok e ∧ Delivers s e (2 + e.2.cpu.fix.toNat) ∧
      (inRam (zp b1) → inRam (zp (b1 + 1)) →
        e.1 = (s.ramByte (zp (b1 + 1)) ++ s.ramByte (zp b1)) + s.cpu.y.setWidth 16 ∧
        e.2.cpu.fix = pageCrossed (s.ramByte (zp b1)) s.cpu.y) := by
  obtain ⟨q, hq, rq, tq, low, high⟩ := readPointer_ok hp b1
  obtain ⟨e, he, de, address, fix⟩ := eaIndexedRead_ok (rq.plainCart hp) q.1 q.2.1 q.2.2.cpu.y
  obtain ⟨-, -, hy, -⟩ := rq.fields
  refine ⟨e, by simp only [eaIzyRead, hq, he, bind, Except.bind], de.trans rq tq (by rw [fix]), fun hlow hhigh => ?_⟩
  rw [address, fix, hy, low hlow, high hhigh]
  exact ⟨rfl, rfl⟩

/-- `(zp),Y` of a store or read-modify-write (R144, R358). -/
theorem eaIzyFixed_address {s : State} (hp : s.plainCart) (b1 : Byte) :
    ∃ e, eaIzyFixed b1 s = .ok e ∧ Delivers s e 3 ∧
      (inRam (zp b1) → inRam (zp (b1 + 1)) →
        e.1 = (s.ramByte (zp (b1 + 1)) ++ s.ramByte (zp b1)) + s.cpu.y.setWidth 16) := by
  obtain ⟨q, hq, rq, tq, low, high⟩ := readPointer_ok hp b1
  obtain ⟨e, he, de, address, -⟩ := eaIndexedFixed_ok (rq.plainCart hp) q.1 q.2.1 q.2.2.cpu.y
  obtain ⟨-, -, hy, -⟩ := rq.fields
  refine ⟨e, by simp only [eaIzyFixed, hq, he, bind, Except.bind], de.trans rq tq rfl, fun hlow hhigh => ?_⟩
  rw [address, hy, low hlow, high hhigh]

/-- Settles O12: each mode's address in numbers. -/
theorem effectiveAddresses : Obligations.EffectiveAddresses := by
  intro s b1 b2 hp
  refine ⟨?zp, ?zpx, ?zpy, ?abs, ?indexedRead, ?indexedFixed, ?izx, ?izyRead, ?izyFixed⟩
  case zp =>
    obtain ⟨e, he, de, address, -⟩ := eaZp_ok b1 s
    exact ⟨e, he, by rw [address, zeroPage_toNat], de.reads.quiet, de.t⟩
  case zpx =>
    obtain ⟨e, he, de, address, -⟩ := eaZpIndexed_ok hp b1 s.cpu.x
    exact ⟨e, he, by rw [address, zeroPage_toNat, BitVec.toNat_add], de.reads.quiet, de.t⟩
  case zpy =>
    obtain ⟨e, he, de, address, -⟩ := eaZpIndexed_ok hp b1 s.cpu.y
    exact ⟨e, he, by rw [address, zeroPage_toNat, BitVec.toNat_add], de.reads.quiet, de.t⟩
  case abs =>
    obtain ⟨e, he, de, address, -⟩ := eaAbs_ok b1 b2 s
    exact ⟨e, he, by rw [address, append_bytes_toNat], de.reads.quiet, de.t⟩
  case indexedRead =>
    have read : ∀ idx, ∃ e, eaIndexedRead b1 b2 idx s = .ok e ∧
        e.1.toNat = (b1.toNat + 256 * b2.toNat + idx.toNat) % 65536 ∧ Quiet s e.2 ∧
        e.2.cpu.fix = decide (256 ≤ b1.toNat + idx.toNat) ∧ e.2.cpu.t = s.cpu.t + e.2.cpu.fix.toNat := by
      intro idx
      obtain ⟨e, he, de, address, fix⟩ := eaIndexedRead_ok hp b1 b2 idx
      exact ⟨e, he, by rw [address, indexed_toNat], de.reads.quiet, fix, by rw [de.t, fix]⟩
    rintro ea idx listed
    rcases List.mem_cons.1 listed with h | h
    · cases h; exact read s.cpu.x
    · cases List.mem_singleton.1 h; exact read s.cpu.y
  case indexedFixed =>
    have fixed : ∀ idx, ∃ e, eaIndexedFixed b1 b2 idx s = .ok e ∧
        e.1.toNat = (b1.toNat + 256 * b2.toNat + idx.toNat) % 65536 ∧ Quiet s e.2 ∧
        e.2.cpu.fix = decide (256 ≤ b1.toNat + idx.toNat) ∧ e.2.cpu.t = s.cpu.t + 1 := by
      intro idx
      obtain ⟨e, he, de, address, fix⟩ := eaIndexedFixed_ok hp b1 b2 idx
      exact ⟨e, he, by rw [address, indexed_toNat], de.reads.quiet, fix, de.t⟩
    rintro ea idx listed
    rcases List.mem_cons.1 listed with h | h
    · cases h; exact fixed s.cpu.x
    · cases List.mem_singleton.1 h; exact fixed s.cpu.y
  case izx =>
    obtain ⟨e, he, de, address⟩ := eaIzx_address hp b1
    refine ⟨e, he, de.reads.quiet, de.t, ?_⟩
    rintro p rfl hlow hhigh
    rw [address hlow hhigh, append_bytes_toNat]
  case izyRead =>
    obtain ⟨e, he, de, address⟩ := eaIzyRead_address hp b1
    refine ⟨e, he, de.reads.quiet, by rw [de.t, Nat.add_assoc], fun hlow hhigh => ?_⟩
    obtain ⟨sum, fix⟩ := address hlow hhigh
    exact ⟨by rw [sum, indexed_toNat], fix⟩
  case izyFixed =>
    obtain ⟨e, he, de, address⟩ := eaIzyFixed_address hp b1
    exact ⟨e, he, de.reads.quiet, de.t, fun hlow hhigh => by rw [address hlow hhigh, indexed_toNat]⟩

end Sys2Proof.Machine
end

section
/-! PROOFS. A step of a cartridge without a coprocessor: the fetch, then `exec` (R24, R133, R151, R350, R352, R367). -/

namespace Sys2Proof.Machine

/-- A fetched byte on the way: the program byte where the PC stands. -/
theorem ReadsTo.fetch {s t : State} {k : Cpu} {b : Byte} (h : ReadsTo s t k) (hp : s.plainCart)
    (hb : s.codeByte k.pc = some b) : ∃ u, fetchByte t = .ok (b, u) ∧ ReadsTo s u (Cpu.incPC k) := by
  obtain ⟨u, hu, arch, quiet, -⟩ := fetchByte_code (h.quiet.plainCart hp)
    (by rw [h.pc, h.quiet.codeByte, hb] : t.codeByte t.cpu.pc = some b)
  exact ⟨u, hu, arch.trans (Cpu.incPC_regular.congr h.arch), h.quiet.trans quiet⟩

/-- `IR` is no observable register (R28). -/
theorem Cpu.latchIR_regular (b : Byte) : Cpu.Regular (fun k => { k with ir := b }) := fun _ => rfl

/-- The 6507 with the PC `n` bytes further. -/
def Cpu.pcPast (n : Nat) (k : Cpu) : Cpu := { k with pc := k.pc + BitVec.ofNat 16 n }

theorem Cpu.pcPast_incPC (n : Nat) (k : Cpu) : Cpu.incPC (k.pcPast n) = k.pcPast (n + 1) := by
  simp only [Cpu.incPC, Cpu.pcPast, BitVec.add_assoc, BitVec.ofNat_add]; rfl

theorem Cpu.pcPast_zero (k : Cpu) : k.pcPast 0 = k := by simp [Cpu.pcPast]

/-- A fetch `n` bytes after the start. -/
theorem ReadsTo.fetchPast {s t : State} {n : Nat} {b : Byte} (h : ReadsTo s t (s.cpu.pcPast n)) (hp : s.plainCart)
    (hb : s.codeByte (s.cpu.pc + BitVec.ofNat 16 n) = some b) :
    ∃ u, fetchByte t = .ok (b, u) ∧ ReadsTo s u (s.cpu.pcPast (n + 1)) := by
  obtain ⟨u, hu, ru⟩ := h.fetch hp hb
  exact ⟨u, hu, Cpu.pcPast_incPC n s.cpu ▸ ru⟩

/-- The bytes fetched before an instruction executes: all but the third of JSR (R367). -/
def fetchLength (b0 : Byte) : Nat := if b0 = 0x20 then 2 else opLength b0

/-- The fetch of an instruction whose bytes the program holds. -/
theorem fetchInstr_code {s : State} {b0 b1 b2 : Byte} (hp : s.plainCart) (h0 : s.codeByte s.cpu.pc = some b0)
    (h1 : 1 < opLength b0 → s.codeByte (s.cpu.pc + 1) = some b1)
    (h2 : 2 < opLength b0 → s.codeByte (s.cpu.pc + 2) = some b2) :
    ∃ f, fetchInstr s = .ok (decode6507 b0 b1 b2, f) ∧ ReadsTo s f (s.cpu.pcPast (fetchLength b0)) := by
  obtain ⟨x, hx, rx⟩ := (s.cpu.pcPast_zero.symm ▸ ReadsTo.start s : ReadsTo s s (s.cpu.pcPast 0)).fetchPast
    (b := b0) hp (by simpa using h0)
  have hop : fetchOpcode s = .ok (b0, x.mapCpu fun k => { k with ir := b0 }) := by
    simp only [fetchOpcode, hx, bind, Except.bind, pure, Except.pure]
  have ry : ReadsTo s (x.mapCpu fun k => { k with ir := b0 }) (s.cpu.pcPast 1) :=
    ⟨(Cpu.latchIR_regular b0 x.cpu).trans rx.arch, rx.quiet.trans (Quiet.mapCpu x _)⟩
  rcases opLength_cases b0 with ⟨one, same⟩ | ⟨two, same⟩ | three
  · have hne : b0 ≠ 0x20 := by rintro rfl; exact absurd one (by decide)
    refine ⟨_, ?_, (show fetchLength b0 = 1 by rw [fetchLength, if_neg hne, one]) ▸ ry⟩
    simp only [fetchInstr, hop, bind, Except.bind, one, if_true, pure, Except.pure, same b1 b2]
  · have hne : b0 ≠ 0x20 := by rintro rfl; exact absurd two (by decide)
    obtain ⟨z, hz, rz⟩ := ry.fetchPast hp (h1 (by omega))
    refine ⟨z, ?_, (show fetchLength b0 = 2 by rw [fetchLength, if_neg hne, two]) ▸ rz⟩
    simp only [fetchInstr, hop, bind, Except.bind, two, hz, pure, Except.pure, same b1 b2, OfNat.ofNat_ne_one, if_true,
      if_false]
  · obtain ⟨z, hz, rz⟩ := ry.fetchPast hp (h1 (by omega))
    by_cases jsr : b0 = 0x20
    · have third : z.peek z.cpu.pc = b2 := State.peek_code (by rw [rz.quiet.codeByte, rz.pc]; exact h2 (by omega))
      subst jsr
      refine ⟨z, ?_, rz⟩
      simp only [fetchInstr, hop, bind, Except.bind, three, hz, pure, Except.pure, third]
      rfl
    · obtain ⟨w, hw, rw'⟩ := rz.fetchPast hp (h2 (by omega))
      refine ⟨w, ?_, (show fetchLength b0 = 3 by rw [fetchLength, if_neg jsr, three]) ▸ rw'⟩
      simp only [fetchInstr, hop, bind, Except.bind, three, hz, hw, pure, Except.pure, jsr, OfNat.ofNat_ne_one, if_false]
      rfl

/-- A step that fetches is `exec` of what it fetched, then the end of the instruction. -/
theorem step_of_fetch {s f : State} {i : Instr} (ready : s.readyToFetch) (h : fetchInstr s = .ok (i, f)) :
    step s = f.execute i := by
  obtain ⟨config, noRun, reset, jam, stall⟩ := ready
  simp only [step, config, noRun, reset, jam, stall, h, if_false, Bool.false_eq_true]

/-- Settles O6: the fetch of a program's bytes, then the step's own equation. -/
theorem stepRuns6507 : Obligations.StepRuns6507 := by
  intro s b0 b1 b2 ready hp h0 h1 h2
  obtain ⟨f, hf, rf⟩ := fetchInstr_code hp h0 h1 h2
  refine ⟨f, rf.arch, rf.quiet, ?_⟩
  rw [step_of_fetch ready hf, State.execute]
  rfl

end Sys2Proof.Machine
end

section
/-! PROOFS. One colour clock of the TIA's line, and the wait for its end (R374, R404, R416 to R418, R437, R442, R444). -/

namespace Sys2Proof.Machine

/-! ### The horizontal decode -/

theorem Tia.sameLine_moveHmoved (k : Nat) (s : SpriteId) (t : Tia) : SameLine t (t.moveHmoved k s) :=
  Tia.sameLine_setSprite _ _ _

/-- Every sprite's pixel moved (R417). -/
def Tia.moveAll (k : Nat) (t : Tia) : Tia := spriteOrder.foldl (fun t s => t.moveHmoved k s) t

theorem Tia.sameLine_moveAll (k : Nat) (t : Tia) : SameLine t (t.moveAll k) :=
  Tia.sameLine_foldl _ _ (fun t s => Tia.sameLine_moveHmoved k s t) t

theorem Tia.sprite_moveHmoved (k : Nat) (s s' : SpriteId) (t : Tia) : (t.moveHmoved k s).sprite s' =
    if s' = s then { t.sprite s with hmovedPixel := ((t.sprite s).hmovedPixel + k) % 160 } else t.sprite s' :=
  Tia.sprite_setSprite _ _ _ _

theorem Tia.sprite_moveAll (k : Nat) (s : SpriteId) (t : Tia) : (t.moveAll k).sprite s =
    { t.sprite s with hmovedPixel := ((t.sprite s).hmovedPixel + k) % 160 } := by
  simp only [Tia.moveAll, spriteOrder, List.foldl_cons, List.foldl_nil, Tia.sprite_moveHmoved]
  cases s <;> simp

/-- What the decodes of R417 leave on the line. -/
structure Decoded (t u : Tia) : Prop where
  ctr : u.ctr = t.ctr
  hblank : u.hblank = (if t.hclk = 0 then true
    else if t.hclk = (if t.hmoveLatch then 76 else 68) then false else t.hblank)
  hsyncSig : u.hsyncSig = (if t.hclk = 16 then true else if t.hclk = 32 then false else t.hsyncSig)
  wsync : u.wsync = (if t.hclk = 0 then false else t.wsync)
  hmoveLatch : u.hmoveLatch = (if t.hclk = 0 then false else t.hmoveLatch)
  scanline : u.scanline = (if t.hclk = 0 then t.scanline + 1 else t.scanline)
  vblank : u.vblank = t.vblank
  comb : t.hclk = 76 → t.hmoveLatch = true → ∀ s, (u.sprite s).hmovedPixel = ((t.sprite s).hmovedPixel + 8) % 160

theorem Tia.decoded (t : Tia) : Decoded t t.decodeLine := by
  have moved := Tia.sameLine_moveAll 8 { t with hblank := false }
  unfold Tia.decodeLine
  split_ifs with h0 h16 h32 h68 latched h76 latched
  case pos => constructor <;> simp [h0, Tia.startLine]
  case pos => cases latched : t.hmoveLatch <;> constructor <;> simp [h16, latched]
  case pos => cases latched : t.hmoveLatch <;> constructor <;> simp [h32, latched]
  case pos => constructor <;> simp [h68, latched]
  case neg => constructor <;> simp [h68, latched]
  case pos =>
    refine ⟨moved.ctr, ?_, ?_, ?_, ?_, ?_, moved.vblank, fun _ _ s => ?_⟩
    · exact moved.hblank.trans (by simp [h76, latched])
    · exact moved.hsyncSig.trans (by simp [h76])
    · exact moved.wsync.trans (by simp [h76])
    · exact moved.hmoveLatch.trans (by simp [h76])
    · exact moved.scanline.trans (by simp [h76])
    · exact congrArg Sprite.hmovedPixel (Tia.sprite_moveAll 8 s { t with hblank := false })
  case neg => constructor <;> simp [h76, latched]
  case neg =>
    refine ⟨rfl, ?_, ?_, ?_, ?_, ?_, rfl, fun h => absurd h h76⟩
    · cases hl : t.hmoveLatch <;> simp [h0, h68, h76]
    · simp [h16, h32]
    · simp [h0]
    · simp [h0]
    · simp [h0]

/-! ### A clock without a firing event -/

/-- A sprite's part other than its live events. -/
theorem SameButEvents.field {t u : Tia} (h : SameButEvents t u) (s : SpriteId) {α : Type} (f : Sprite → α)
    (hf : ∀ k : Sprite, f { k with events := [] } = f k) : f (u.sprite s) = f (t.sprite s) := by
  rw [← hf (u.sprite s), h.sprite, hf]

/-- The line after a clock in which no event fires is that of the decode. -/
theorem Tia.tick_line {t : Tia} (p : Params) (h : Tia.Waiting t) :
    (t.tick p).ctr = t.clock.ctr ∧ (t.tick p).hblank = t.clock.decodeLine.hblank ∧
      (t.tick p).hsyncSig = t.clock.decodeLine.hsyncSig ∧ (t.tick p).wsync = t.clock.decodeLine.wsync ∧
      (t.tick p).hmoveLatch = t.clock.decodeLine.hmoveLatch ∧ (t.tick p).scanline = t.clock.decodeLine.scanline ∧
      (t.tick p).vblank = t.clock.decodeLine.vblank := by
  have ev := Tia.tick_sameButEvents p h
  have line := Tia.sameLine_stages p t
  exact ⟨(ev.ctr.trans line.ctr).trans (Tia.decodeLine_ctr _), ev.hblank.trans line.hblank,
    ev.hsyncSig.trans line.hsyncSig, ev.wsync.trans line.wsync, ev.hmoveLatch.trans line.hmoveLatch,
    ev.scanline.trans line.scanline, ev.vblank.trans line.vblank⟩

theorem Tia.hclk_tick {t : Tia} (p : Params) (h : Tia.Waiting t) (hc : t.ctr.count < 57) :
    (t.tick p).hclk = (t.hclk + 1) % 228 := by
  rw [← Tia.hclk_clock t hc]
  exact congrArg Counter.position (Tia.tick_line p h).1

/-- The ripple acts on the clocks two past a multiple of four (R416). -/
theorem Counter.pclk_of_position_mod {k : Counter} (h : k.position % 4 = 0) : k.pclk = .risingPhi1 := by
  unfold Counter.position at h
  cases hk : k.pclk
  case risingPhi1 => rfl
  all_goals
    rw [hk] at h
    simp only [PhaseClock.idx] at h
    omega

theorem Tia.rippleStage_of_pclk {t : Tia} (p : Params) (h : t.ctr.pclk ≠ .risingPhi2) : t.rippleStage p = t := by
  unfold Tia.rippleStage
  split
  · exact absurd ‹_› h
  · rfl

theorem Tia.sprite_emit (t : Tia) (s : SpriteId) : t.emit.sprite s = t.sprite s := by cases s <;> rfl

/-- The signal shows the blanks of its clock (R444). -/
theorem Tia.signal_emit (t : Tia) : t.emit.signal.hblank = t.emit.hblank ∧ t.emit.signal.vblank = t.emit.vblank ∧
    t.emit.signal.hsync = t.emit.hsyncSig ∧
    (t.emit.hblank = true ∨ t.emit.vblank = true → t.emit.signal.colour = none) :=
  ⟨rfl, rfl, rfl, Tia.colour_blank t⟩

/-- Settles O33: the counter's clock, the decode, and the signal of the last stage. -/
theorem lineClock : Obligations.LineClock := by
  intro p t u hc waiting hu
  rw [hu]
  have ev := Tia.tick_sameButEvents p waiting
  obtain ⟨-, hblank, hsync, wsync, latch, scanline, vblank⟩ := Tia.tick_line p waiting
  obtain ⟨signalHblank, signalVblank, signalHsync, signalColour⟩ :=
    Tia.signal_emit ((t.clock.decodeLine.rippleStage p).spriteStage p)
  have decoded := t.clock.decoded
  have hclk := Tia.hclk_tick p waiting hc
  have same : t.clock.hclk = (t.tick p).hclk := (Tia.hclk_clock t hc).trans hclk.symm
  refine ⟨hclk, ?_, ?_, ?_, ?_, ?_, fun h76 latched s => ?comb, ?_, ?_, ?_, fun blank => ?colour⟩
  case comb =>
    have pclk : t.clock.decodeLine.ctr.pclk ≠ .risingPhi2 := by
      have : t.clock.ctr.position % 4 = 0 := by
        show t.clock.hclk % 4 = 0
        rw [same, h76]
      rw [Tia.decodeLine_ctr, Counter.pclk_of_position_mod this]
      decide
    have stage : SameMotion t.clock.decodeLine (t.clock.decodeLine.spriteStage p) s := by
      unfold Tia.spriteStage
      split
      · exact ⟨rfl, rfl, rfl⟩
      · exact Tia.foldl_tickSprite_sameMotion p s _ _
    calc ((t.tick p).sprite s).hmovedPixel = ((Tia.drawn p t).sprite s).hmovedPixel :=
          ev.field s Sprite.hmovedPixel fun _ => rfl
      _ = ((t.clock.decodeLine.spriteStage p).sprite s).hmovedPixel := by
          rw [Tia.drawn, Tia.rippleStage_of_pclk p pclk, Tia.sprite_emit]
      _ = (t.clock.decodeLine.sprite s).hmovedPixel := stage.1
      _ = ((t.sprite s).hmovedPixel + 8) % 160 := decoded.comb (same.trans h76) latched s
  case colour =>
    rw [ev.hblank, ev.vblank] at blank
    exact (congrArg Signal.colour ev.signal).trans (signalColour blank)
  · rw [hblank, decoded.hblank, same]; rfl
  · rw [hsync, decoded.hsyncSig, same]; rfl
  · rw [wsync, decoded.wsync, same]; rfl
  · rw [latch, decoded.hmoveLatch, same]; rfl
  · rw [scanline, decoded.scanline, same]; rfl
  · rw [ev.signal, ev.hblank]; exact signalHblank
  · rw [ev.signal, ev.vblank]; exact signalVblank
  · rw [ev.signal, ev.hsyncSig]; exact signalHsync

end Sys2Proof.Machine
end

section
/-! PROOFS. The wait for the end of a line, and the reset sequence (R374, R417, R437, R702, R703, R720). -/

namespace Sys2Proof.Machine

/-! ### WSYNC with no event live -/

theorem Tia.eventsOf_of_calm {t : Tia} (h : t.liveEvents = 0) (g : Group) : t.eventsOf g = [] := by
  rw [Tia.liveEvents_eq] at h
  refine List.eq_nil_of_length_eq_zero ?_
  rcases g with _ | s | _ <;> (try cases s) <;> omega

theorem Tia.waiting_of_calm {t : Tia} (h : t.liveEvents = 0) : Tia.Waiting t := by
  intro g e he
  rw [Tia.eventsOf_of_calm h g] at he
  exact absurd he List.not_mem_nil

theorem Tia.calm_tick {t : Tia} (p : Params) (h : t.liveEvents = 0) : (t.tick p).liveEvents = 0 :=
  Nat.le_zero.1 (h ▸ Tia.liveEvents_tick p t)

theorem Tia.calm_ticks {t : Tia} (p : Params) (n : Nat) (h : t.liveEvents = 0) : (t.ticks p n).liveEvents = 0 :=
  Nat.le_zero.1 (h ▸ Tia.liveEvents_ticks p n t)

theorem Counter.tick_lt {len : Nat} {k : Counter} (h : k.count < len) : (k.tick len).count < len := by
  unfold Counter.tick
  split
  · exact Nat.mod_lt _ (Nat.lt_of_le_of_lt (Nat.zero_le _) h)
  · exact h

/-- WSYNC falls where the line begins, and nowhere else (R417). -/
theorem Tia.wsync_tick {t : Tia} (p : Params) (h : Tia.Waiting t) :
    (t.tick p).wsync = if t.clock.hclk = 0 then false else t.wsync := by
  rw [(Tia.tick_line p h).2.2.2.1, t.clock.decoded.wsync]; rfl

/-- WSYNC stays clear. -/
theorem Tia.wsync_ticks_of_clear (p : Params) (n : Nat) {t : Tia} (h : t.liveEvents = 0) (hw : t.wsync = false) :
    (t.ticks p n).wsync = false := by
  induction n generalizing t with
  | zero => exact hw
  | succ n ih =>
    refine ih (Tia.calm_tick p h) ?_
    rw [Tia.wsync_tick p (Tia.waiting_of_calm h), hw, ite_self]

/-- WSYNC stays as it is until `hclk` wraps. -/
theorem Tia.wsync_ticks (p : Params) (n : Nat) {t : Tia} (h : t.liveEvents = 0) (hc : t.ctr.count < 57) :
    (t.ticks p n).wsync = (t.wsync && decide (t.hclk + n < 228)) := by
  have range : ∀ u : Tia, u.ctr.count < 57 → u.hclk < 228 := by
    intro u hu
    unfold Tia.hclk Counter.position
    cases u.ctr.pclk <;> simp only [PhaseClock.idx] <;> omega
  induction n generalizing t with
  | zero => simp only [Tia.ticks_zero, Nat.add_zero, range t hc, decide_true, Bool.and_true]
  | succ n ih =>
    have waiting := Tia.waiting_of_calm h
    have hclk := Tia.hclk_tick p waiting hc
    have bound := range t hc
    have ctr : (t.tick p).ctr.count < 57 := by
      rw [(Tia.tick_line p waiting).1]; exact Counter.tick_lt hc
    show ((t.tick p).ticks p n).wsync = _
    rw [ih (Tia.calm_tick p h) ctr, Tia.wsync_tick p waiting, Tia.hclk_clock t hc, hclk]
    by_cases wrap : t.hclk + 1 = 228
    · have : ¬ t.hclk + (n + 1) < 228 := by omega
      simp [wrap, this]
    · have small : (t.hclk + 1) % 228 = t.hclk + 1 := Nat.mod_eq_of_lt (by omega)
      simp only [small, Nat.succ_ne_zero, if_false, Nat.add_assoc, Nat.add_comm 1 n]

/-! ### The wait -/

/-- The wait ends with the first driver step after which WSYNC is clear. -/
theorem State.waitReady_until {s : State} (hp : s.plainCart) {n fuel : Nat} (hfuel : n ≤ fuel)
    (stalled : ∀ m, m < n → (s.idle m).tia.wsync = true) (clear : (s.idle n).tia.wsync = false) :
    s.waitReady fuel = .ok (s.idle n) := by
  induction n generalizing s fuel with
  | zero =>
    rw [State.idle_zero] at clear ⊢
    cases fuel with
    | zero => rfl
    | succ fuel => simp only [State.waitReady, clear, Bool.false_eq_true, if_false]
  | succ n ih =>
    obtain ⟨fuel, rfl⟩ : ∃ f, fuel = f + 1 := ⟨fuel - 1, by omega⟩
    have now : s.tia.wsync = true := stalled 0 (Nat.succ_pos n)
    have rest : (s.idle 1).waitReady fuel = .ok ((s.idle 1).idle n) := by
      refine ih (s := s.idle 1) hp (by omega) (fun m hm => ?_) ?_
      · rw [State.idle_add, Nat.add_comm]; exact stalled (m + 1) (by omega)
      · rw [State.idle_add, Nat.add_comm]; exact clear
    simp only [State.waitReady, now, if_true, State.driverTail_plain hp, rest, State.idle_add, Nat.add_comm 1 n]

/-- A read cycle after its wait is a read cycle that does not wait. -/
theorem cycleRead_of_wait {s t : State} (a : Addr) (h : s.waitReady s.waitFuel = .ok t) (clear : t.tia.wsync = false) :
    cycleRead a s = cycleRead a t := by
  have again : t.waitReady t.waitFuel = .ok t := by
    cases hf : t.waitFuel with
    | zero => rfl
    | succ n => simp only [State.waitReady, clear, Bool.false_eq_true, if_false]
  simp only [cycleRead, h, again, bind, Except.bind]

/-- Settles O41: the driver steps until `hclk` has wrapped, then a read cycle that does not wait. -/
theorem wsyncWait : Obligations.WsyncWait := by
  intro s a hp stall hc calm
  obtain ⟨n, hn⟩ : ∃ n, n = (228 - s.tia.hclk + 2) / 3 := ⟨_, rfl⟩
  have after : ∀ m, (s.idle m).tia.wsync = decide (s.tia.hclk + 3 * m < 228) := fun m => by
    rw [State.idle, Tia.wsync_ticks s.params (3 * m) calm hc, stall, Bool.true_and]
  have clear : (s.idle n).tia.wsync = false := (after n).trans (decide_eq_false (by omega))
  have wait : s.waitReady s.waitFuel = .ok (s.idle n) := by
    refine State.waitReady_until hp ?_ (fun m hm => (after m).trans (decide_eq_true (by omega))) clear
    unfold State.waitFuel
    omega
  have quiet := State.idle_quiet n s
  obtain ⟨m, x, hx, -, cpu, read, steps, -, noWait⟩ := cycleRead_plain (quiet.plainCart hp) a
  obtain rfl : m = 0 := noWait clear
  refine ⟨x, (cycleRead_of_wait a wait clear).trans hx, cpu, ?_, ?_, quiet.trans read⟩
  · rw [read.elapsed.ticks]
    exact Tia.wsync_ticks_of_clear _ _ (Tia.calm_ticks _ _ calm) clear
  · rw [steps, ← hn]; rfl

/-! ### The reset sequence -/

/-- The state after `n` read cycles that did not wait, in which the observable registers changed as given. -/
structure Passed (n : Nat) (s t : State) (k : Cpu) : Prop extends ReadsTo s t k where
  steps : t.riot.steps = s.riot.steps + n

/-- A state in which no read cycle waits: no coprocessor, WSYNC clear and no event that could set it. -/
structure Unstalled (s : State) : Prop where
  plain : s.plainCart
  clear : s.tia.wsync = false
  calm : s.tia.liveEvents = 0

theorem Unstalled.quiet {s t : State} (h : Unstalled s) (q : Quiet s t) : Unstalled t :=
  ⟨q.plainCart h.plain, by rw [q.elapsed.ticks]; exact Tia.wsync_ticks_of_clear _ _ h.calm h.clear,
   by rw [q.elapsed.ticks]; exact Tia.calm_ticks _ _ h.calm⟩

theorem Passed.start (s : State) : Passed 0 s s s.cpu := ⟨.start s, rfl⟩

theorem Passed.mapCpu {n : Nat} {s t : State} {k : Cpu} {op : Cpu → Cpu} (h : Passed n s t k) (hr : Cpu.Regular op) :
    Passed n s (t.mapCpu op) (op k) := ⟨h.toReadsTo.mapCpu hr, h.steps⟩

/-- One more read cycle, which takes one driver step. -/
theorem Passed.read {n : Nat} {s t : State} {k : Cpu} (h : Passed n s t k) (hs : Unstalled s) (a : Addr) :
    ∃ x, cycleRead a t = .ok x ∧ Passed (n + 1) s x.2 k ∧ ∀ v, s.codeByte a = some v → x.1 = v := by
  have ht := hs.quiet h.quiet
  obtain ⟨m, x, hx, -, cpu, read, steps, -, noWait⟩ := cycleRead_plain ht.plain a
  obtain rfl : m = 0 := noWait ht.clear
  refine ⟨x, hx, ⟨h.toReadsTo.reads ⟨by rw [cpu]; rfl, read⟩, ?_⟩, fun v hv => ?_⟩
  · rw [steps, h.steps]; rfl
  · exact cycleRead_code ht.plain ((h.quiet.codeByte a).trans hv) hx

theorem Passed.dummy {n : Nat} {s t : State} {k : Cpu} (h : Passed n s t k) (hs : Unstalled s) (a : Addr) :
    ∃ u, dummyRead a t = .ok u ∧ Passed (n + 1) s u k := by
  obtain ⟨x, hx, px, -⟩ := h.read hs a
  exact ⟨x.2, by simp only [dummyRead, hx, bind, Except.bind, pure, Except.pure], px⟩

theorem Passed.stackCycle {n : Nat} {s t : State} {k : Cpu} (h : Passed n s t k) (hs : Unstalled s) :
    ∃ u, resetStackCycle t = .ok u ∧ Passed (n + 1) s u (Cpu.decSP k) := by
  obtain ⟨u, hu, pu⟩ := h.dummy hs (stackAddr t.cpu.sp)
  exact ⟨_, by simp only [resetStackCycle, hu, bind, Except.bind, pure, Except.pure], pu.mapCpu Cpu.decSP_regular⟩

/-- The end of the reset sequence (R702). -/
def Cpu.endReset (k : Cpu) : Cpu := { k with resetting := false, t := 0 }

theorem Cpu.endReset_regular : Cpu.Regular Cpu.endReset := fun _ => rfl

/-- Settles O57: two reads at the PC, three at the stack, two at the vector, none of which waits. -/
theorem resetSequenceRuns : Obligations.ResetSequence := by
  intro s config hp resetting clear calm
  have hs : Unstalled s := ⟨hp, clear, calm⟩
  obtain ⟨a, ha, pa⟩ := (Passed.start s).dummy hs s.cpu.pc
  obtain ⟨b, hb, pb⟩ := pa.dummy hs a.cpu.pc
  obtain ⟨c, hc, pc⟩ := pb.stackCycle hs
  obtain ⟨d, hd, pd⟩ := pc.stackCycle hs
  obtain ⟨e, he, pe⟩ := pd.stackCycle hs
  obtain ⟨l, hl, pl, low⟩ := (pe.mapCpu (Cpu.putI_regular true)).read hs 0xFFFC
  obtain ⟨h, hh, ph, high⟩ := pl.read hs 0xFFFD
  have done := (ph.mapCpu (Cpu.setPC_regular (h.1 ++ l.1))).mapCpu Cpu.endReset_regular
  have load : loadPC 0xFFFC 0xFFFD (e.mapCpu (Cpu.putI true)) = .ok (h.2.mapCpu (Cpu.setPC (h.1 ++ l.1))) := by
    simp only [loadPC, hl, hh, bind, Except.bind, pure, Except.pure]
  have runs : resetSequence s = .ok ((h.2.mapCpu (Cpu.setPC (h.1 ++ l.1))).mapCpu Cpu.endReset) := by
    simp only [resetSequence, ha, hb, hc, hd, he, bind, Except.bind]
    rw [show e.mapCpu (fun k => { k with i := true }) = e.mapCpu (Cpu.putI true) from rfl, load]
    rfl
  have noRun : ¬(s.mapper.variant = .coproc ∧ s.arm.yield = .running) := fun both => hp both.1
  have stepped : step s = .next ((h.2.mapCpu (Cpu.setPC (h.1 ++ l.1))).mapCpu Cpu.endReset) := by
    simp only [step, config, noRun, resetting, if_true, if_false, runs]; rfl
  have three : s.cpu.sp - 1 - 1 - 1 = s.cpu.sp - 3 := by bv_omega
  refine ⟨_, l.1, h.1, stepped, ?_, done.quiet, done.steps, low, high⟩
  have arch := done.arch
  simp only [Cpu.decSP, Cpu.putI, Cpu.setPC, Cpu.endReset, three] at arch
  exact arch

end Sys2Proof.Machine
end

section
/-! PROOFS. The values reset leaves, and the invariant there (R56, R700, R701, R703 to R705). -/

namespace Sys2Proof.Machine

/-- The parts of a state just reset: the 6507's sequence requested, the TIA and the shim at their reset values, the ARM's program
memory the image again, the mapper's accounts empty. -/
structure JustReset (t : State) : Prop where
  cpu : t.cpu.jammed = false ∧ t.cpu.resetting = true ∧ t.cpu.t = 0
  tia : t.tia = Tia.reset
  shim : t.shim = Shim.reset
  accounts : (t.mapper.armCarry, t.mapper.debt) = (0, 0)
  arm : ∃ (a : Arm) (var : Memory) (top : Word),
    t.arm = { a.machineReset t.params t.mapper.armImage with varMem := var, variableMemTop := top } ∧
      (t.mapper.variant ≠ .coproc → top = 0)

theorem State.justReset_hardReset (s : State) : JustReset s.hardReset := by
  obtain ⟨params, -, -, -, cpu, tia, shim, ⟨bank, ram, mapper⟩, var, top, arm, none⟩ := s.hardReset_spec
  refine ⟨by rw [cpu]; exact ⟨rfl, rfl, rfl⟩, tia, shim, by rw [mapper], s.arm, var, top, ?_, ?_⟩
  · rw [arm, params, mapper]
  · rw [mapper]; exact none

theorem State.justReset_reset : JustReset State.reset :=
  ⟨⟨rfl, rfl, rfl⟩, rfl, rfl, rfl, State.reset.arm, [], 0, rfl, fun _ => rfl⟩

/-- A cartridge swap before its reset: the mapper, its parameters, and the ARM but for the RNG (R700, R701). -/
def State.withCartridge (m : Mapper) (c : CartParams) (s : State) : State :=
  { s with
    params := { s.params with toCartParams := c }
    mapper := m
    arm := { Arm.reset { s.params with toCartParams := c } with
      rngCount := s.arm.rngCount, rngLast := s.arm.rngLast, freeCount := s.arm.freeCount } }

theorem State.swapCartridge_eq (m : Mapper) (c : CartParams) (s : State) :
    s.swapCartridge m c = (s.withCartridge m c).hardReset := rfl

/-- Settles O58: the three requests leave a state just reset, and the first two are hard resets. -/
theorem resetValues : Obligations.ResetValues := by
  refine ⟨fun s t m c requested => ?values, fun s t m c requested => ?kept⟩
  case values =>
    have reset : JustReset t := by
      rcases requested with h | h | h
      · rw [h]; exact s.justReset_hardReset
      · rw [h]; exact State.justReset_hardReset _
      · rw [h]; exact State.justReset_reset
    obtain ⟨cpu, tia, shim, accounts, a, var, top, arm, none⟩ := reset
    rw [tia, shim, arm]
    refine ⟨cpu, ⟨rfl, rfl, rfl, rfl, rfl, rfl, rfl, rfl, rfl, rfl, rfl, rfl, fun i => by cases i <;> rfl⟩,
      List.forall_mem_cons.2 ⟨rfl, List.forall_mem_singleton.2 rfl⟩,
      List.forall_mem_cons.2 ⟨rfl, List.forall_mem_singleton.2 rfl⟩, rfl, rfl, rfl, rfl, rfl, rfl, rfl, rfl, rfl, rfl,
      rfl, none, rfl, rfl, accounts, rfl, rfl, rfl, rfl, rfl, rfl⟩
  case kept =>
    obtain ⟨u, cpu, ram, rng, hard⟩ : ∃ u : State, (u.cpu = s.cpu) ∧ u.riot.ram = s.riot.ram ∧
        (u.arm.rngCount, u.arm.rngLast) = (s.arm.rngCount, s.arm.rngLast) ∧ t = u.hardReset := by
      rcases requested with h | h
      · exact ⟨s, rfl, rfl, rfl, h⟩
      · exact ⟨s.withCartridge m c, rfl, rfl, rfl, h⟩
    obtain ⟨params, -, riot, -, cpuReset, -, -, ⟨bank, cartRam, mapper⟩, var, top, arm, -⟩ := u.hardReset_spec
    rw [← hard] at params riot cpuReset mapper arm
    refine ⟨by rw [cpuReset, cpu], by rw [cpuReset, cpu], by rw [riot, ram], by rw [arm, ← rng]; rfl, fun h => ?_,
      fun h => ?_⟩
    · obtain ⟨params, -, -, -, -, -, -, ⟨bank, cartRam, mapper⟩, -⟩ := s.hardReset_spec
      rw [h, mapper]
      exact ⟨params, rfl, rfl⟩
    · obtain ⟨params, -, -, -, -, -, -, ⟨bank, cartRam, mapper⟩, -⟩ := (s.withCartridge m c).hardReset_spec
      rw [h, State.swapCartridge_eq, mapper]
      exact ⟨params, rfl, rfl, rfl⟩

/-! ### The invariant at reset -/

theorem Tia.reset_eventsOf (g : Group) : Tia.reset.eventsOf g = [] := by
  rcases g with _ | s | _
  · rfl
  · cases s <;> rfl
  · rfl

theorem Tia.valid_reset : Tia.reset.Valid where
  ctr := by decide
  ripple := fun _ h => absurd h nofun
  sprites := fun s => by cases s <;> exact ⟨by decide, by decide, by decide⟩
  pending := fun g e he => absurd (Tia.reset_eventsOf g ▸ he) List.not_mem_nil
  capacity := by decide

/-- Settles O59: no memory holds a byte, the TIA is empty, and no program runs. -/
theorem invAtReset : Obligations.InvAtReset where
  ram := rfl
  rom := rfl
  cartRam := rfl
  armImage := rfl
  progMem := rfl
  varMem := rfl
  tia := Tia.valid_reset
  pushed := nofun
  stuff := nofun
  pipeline := fun h => absurd rfl h

end Sys2Proof.Machine
end

section
/-! PROOFS. The ARM's instructions that touch registers and flags alone, and its branches (R536 to R569, R587 to R602). -/

namespace Sys2Proof.Machine

/-! ### Moves and logic -/

theorem exec_thumbLogicRows (rd rs : LowReg) (imm : Byte) (s : State) :
    ∀ r ∈ thumbLogicRows rd rs imm, exec r.1 s = .next (s.charge1S.thumbLogic rd (r.2 s)) := by
  repeat refine List.forall_mem_cons.2 ⟨rfl, ?_⟩
  exact List.forall_mem_nil _

/-- N and Z alone, from a result that goes nowhere (R558). -/
theorem ArmEffect.setNZ {s u : State} (h : SameButCycles s u) (r : Word) :
    ArmEffect s (u.mapArm (Arm.setNZ r)) s.reg (flagsNZ32 r s.arm.c s.arm.v) := by
  obtain ⟨-, -, hc, hv⟩ := ArmFlags.mk.inj h.flags
  refine ArmEffect.of_flags h _ ?_
  simp only [State.mapArm, Arm.setNZ_eq, flagsNZ32, ← hc, ← hv]

/-- The end of a multiplication: C takes the next free value (log 13). -/
def Arm.takeFreeC (a : Arm) : Arm := { a with c := Config.mulCarry a.freeCount, freeCount := a.freeCount + 1 }

theorem ArmEffect.takeFreeC {s t : State} {regs : AnyReg → Word} {f : ArmFlags} (h : ArmEffect s t regs f) :
    ArmEffect { s with arm := { s.arm with freeCount := s.arm.freeCount + 1 } } (t.mapArm Arm.takeFreeC) regs
      { f with c := Config.mulCarry t.arm.freeCount } := by
  have rest : ∀ w : State, (w.mapArm Arm.takeFreeC).sansRegs =
      { w.sansRegs with arm := { w.sansRegs.arm with freeCount := w.sansRegs.arm.freeCount + 1 } } := fun _ => rfl
  refine ⟨h.regs, by rw [← h.flags]; rfl, ?_⟩
  rw [rest, h.rest]; rfl

/-- Settles O42: logic is one shape, TST its flags, MUL the shape with the free carry after it. -/
theorem thumbLogic : Obligations.ThumbLogic := by
  intro s rd rs imm
  refine ⟨fun r hr => ?logic, ?tst, ?mul⟩
  case logic => exact ⟨_, exec_thumbLogicRows rd rs imm s r hr, .thumbLogic s.charge1S_same rd (r.2 s)⟩
  case tst => exact ⟨_, rfl, .setNZ s.charge1S_same _⟩
  case mul => exact ⟨_, _, rfl, (ArmEffect.thumbLogic (s.charge1SI_same (mulCycles (s.low rd))) rd _).takeFreeC⟩

/-! ### Shifts -/

theorem lslFlags_eq : lslFlags = lslRule := by
  funext v n c; simp only [lslFlags, lslRule, Nat.lt_succ_iff]

theorem lsrFlags_eq : lsrFlags = lsrRule := by
  funext v n c; simp only [lsrFlags, lsrRule, Nat.lt_succ_iff]

/-- A word of sign bits (R538). -/
theorem sshiftRight_31 (v : Word) : v.sshiftRight 31 = if v.getLsbD 31 then 0xFFFFFFFF else 0 := by
  refine BitVec.eq_of_getLsbD_eq fun i hi => ?_
  have sign : (v.sshiftRight 31).getLsbD i = v.msb := by
    rw [BitVec.getLsbD_sshiftRight, decide_eq_false (Nat.not_le.2 hi), Bool.not_false, Bool.true_and]
    split
    · rw [show 31 + i = 31 by omega, msb_eq_bit31]
    · rfl
  rw [sign, ← msb_eq_bit31]
  cases v.msb
  · exact BitVec.getLsbD_zero.symm
  · exact ((BitVec.getLsbD_allOnes (v := 32) (i := i)).trans (decide_eq_true hi)).symm

theorem asrFlags_eq : asrFlags = asrRule := by
  funext v n c; simp only [asrFlags, asrRule, Nat.lt_succ_iff, sshiftRight_31]

theorem rorFlags_eq : rorFlags = rorRule := by
  funext v n c; simp only [rorFlags, rorRule, msb_eq_bit31]

/-- A shift is its rule at its row's amount, on a state that has been charged. -/
theorem exec_thumbShiftRows (rd rs : LowReg) (off : BitVec 5) (s : State) : ∀ r ∈ thumbShiftRows rd rs off,
    ∃ u, SameButCycles s u ∧
      exec r.1 s = .next (u.thumbShift rd (r.2.2.2 (r.2.1 s) (r.2.2.1 s) s.arm.c)) := by
  rw [thumbShiftRows, ← lslFlags_eq, ← lsrFlags_eq, ← asrFlags_eq, ← rorFlags_eq]
  refine List.forall_mem_cons.2 ⟨⟨_, s.charge1S_same, rfl⟩, ?_⟩
  refine List.forall_mem_cons.2 ⟨⟨_, s.charge1S_same, rfl⟩, ?_⟩
  refine List.forall_mem_cons.2 ⟨⟨_, s.charge1S_same, rfl⟩, ?_⟩
  repeat refine List.forall_mem_cons.2 ⟨⟨_, s.charge1SI_same 1, rfl⟩, ?_⟩
  exact List.forall_mem_nil _

/-- Settles O44: every row is one shape, and the model's shifts are the rules. -/
theorem thumbShifts : Obligations.ThumbShifts := by
  rintro s rd rs off r hr _ rfl
  obtain ⟨u, same, he⟩ := exec_thumbShiftRows rd rs off s r hr
  exact ⟨_, he, .thumbShift same rd _⟩

/-! ### Moves and stack pointer -/

theorem setRegChecked_other {i : AnyReg} (h : i ≠ 13) (v : Word) (s : State) :
    s.setRegChecked i v = s.mapArm (Arm.setReg i v) := by
  simp only [State.setRegChecked, if_neg h]

theorem exec_tAddHi {hd : AnyReg} (h : hd ≠ 15) (hs : AnyReg) (s : State) :
    exec (.tAddHi hd hs) s = .next (s.charge1S.setRegChecked hd (s.reg hd + s.reg hs)) := by
  show execTAddHi hd hs s = _
  simp only [execTAddHi, if_neg h]

theorem exec_tMovHi {hd : AnyReg} (h : hd ≠ 15) (hs : AnyReg) (s : State) :
    exec (.tMovHi hd hs) s = .next (s.charge1S.setRegChecked hd (s.reg hs)) := by
  show execTMovHi hd hs s = _
  simp only [execTMovHi, if_neg h]

theorem exec_thumbMoveRows (rd : LowReg) {hd : AnyReg} (hs : AnyReg) (imm : Byte) (s : State) (h13 : hd ≠ 13)
    (h15 : hd ≠ 15) : ∀ r ∈ thumbMoveRows rd hd hs imm,
      exec r.1 s = .next (s.charge1S.mapArm (Arm.setReg r.2.1 (r.2.2 s))) := by
  refine List.forall_mem_cons.2 ⟨by rw [exec_tAddHi h15, setRegChecked_other h13], ?_⟩
  refine List.forall_mem_cons.2 ⟨by rw [exec_tMovHi h15, setRegChecked_other h13], ?_⟩
  repeat refine List.forall_mem_cons.2 ⟨rfl, ?_⟩
  exact List.forall_mem_nil _

theorem exec_thumbStackRows (hs : AnyReg) (imm7 : BitVec 7) (s : State) :
    ∀ r ∈ thumbStackRows hs imm7, exec r.1 s = .next (s.charge1S.setRegChecked 13 (r.2 s)) := by
  repeat refine List.forall_mem_cons.2 ⟨rfl, ?_⟩
  exact List.forall_mem_nil _

/-- Settles O45: one register write, with the stack check where it is register 13. -/
theorem thumbMoves : Obligations.ThumbMoves := by
  intro s rd hd hs imm imm7
  refine ⟨fun h13 h15 r hr => ?moves, fun r hr => ?stack⟩
  case moves => exact ⟨_, exec_thumbMoveRows rd hs imm s h13 h15 r hr, .setReg s.charge1S_same _ _⟩
  case stack => exact ⟨_, exec_thumbStackRows hs imm7 s r hr, State.setRegChecked_sp s.charge1S_same _⟩

/-! ### Branches -/

theorem State.chargeBranch_same (t : Word) (s : State) : SameButCycles s (s.chargeBranch t) := State.charge_same _ _

theorem State.thumbJump_jumps (s : State) (t : Word) : ArmJump s (s.thumbJump t) s.reg t :=
  .of_writePC (s.chargeBranch_same t) t

/-- A signed offset scaled by a power of two. -/
theorem signExtend_shiftLeft {w : Nat} (off : BitVec w) (k : Nat) :
    off.signExtend 32 <<< k = BitVec.ofInt 32 (2 ^ k * off.toInt) := by
  rw [BitVec.shiftLeft_eq_mul_twoPow, BitVec.ofInt_mul, BitVec.mul_comm]
  congr 1
  refine BitVec.eq_of_toNat_eq ?_
  rw [BitVec.toNat_twoPow, BitVec.toNat_ofInt]
  norm_cast

theorem branchTarget_eq {w : Nat} (off : BitVec w) (s : State) :
    s.branchTarget off = s.reg 15 + BitVec.ofInt 32 (2 * off.toInt) := by
  rw [State.branchTarget, signExtend_shiftLeft]; rfl

/-- A conditional branch is decided by its row's condition. -/
theorem exec_thumbBranchRows (s : State) (off : Byte) :
    ∀ r ∈ List.zip (thumbBranchRows off) (conditionHolds s.armFlags),
      exec r.1 s = .next (if r.2 then s.thumbJump (s.branchTarget off) else s.charge1S) := by
  rw [thumbBranchRows, conditionHolds]
  repeat refine List.forall_mem_cons.2 ⟨rfl, ?_⟩
  exact List.forall_mem_nil _

/-- A charge alone. -/
theorem ArmEffect.of_charge {s u : State} (h : SameButCycles s u) : ArmEffect s u s.reg s.armFlags :=
  ⟨h.reg, h.flags, h.rest⟩

/-- Settles O50: a jump where the condition holds, a charge where it does not. -/
theorem thumbBranches : Obligations.ThumbBranches := by
  intro s off r hr
  refine ⟨_, exec_thumbBranchRows s off r hr, fun taken => ?_, fun not => ?_⟩
  · rw [taken, if_pos rfl, branchTarget_eq]
    exact s.thumbJump_jumps _
  · rw [not, if_neg nofun]
    exact .of_charge s.charge1S_same

/-- The second half of BL: the link register, then the jump. -/
theorem ArmJump.link {s : State} (t v : Word) :
    ArmJump s ((s.chargeBranch t).mapArm fun a => Arm.writePC t (a.setReg 14 v)) (withReg 14 v s.reg) t := by
  obtain ⟨regs, flags, rest⟩ := ArmEffect.setReg (s.chargeBranch_same t) 14 v
  have same : (s.chargeBranch t).mapArm (fun a => Arm.writePC t (a.setReg 14 v)) =
      ((s.chargeBranch t).mapArm (Arm.setReg 14 v)).mapArm (Arm.writePC t) := rfl
  obtain ⟨jumpRegs, jumpFlags, jumpRest⟩ :=
    ArmJump.of_writePC (SameButCycles.rfl' (s := (s.chargeBranch t).mapArm (Arm.setReg 14 v))) t
  have wrote : ∀ w : State, ({ w with arm := { w.arm with wrotePC := true } } : State).sansRegs =
      { w.sansRegs with arm := { w.sansRegs.arm with wrotePC := true } } := fun _ => rfl
  rw [same]
  refine ⟨fun j => ?_, jumpFlags.trans flags, by rw [jumpRest, wrote, rest, ← wrote]⟩
  rw [jumpRegs]
  simp only [withReg]
  split
  · rfl
  · exact regs j

/-- Settles O51: each row's target, in the terms of R597, R601 and R602. -/
theorem thumbJumps : Obligations.ThumbJumps := by
  intro s hs off imm
  refine ⟨⟨_, rfl, .of_writePC (s.chargeBranch_same _) _⟩, ⟨_, rfl, .of_writePC (s.chargeBranch_same _) _⟩,
    fun thumb => ⟨s.thumbJump (s.reg hs), ?bx, s.thumbJump_jumps _⟩, fun arm => ?bxArm,
    ⟨s.thumbJump (s.branchTarget off), rfl, branchTarget_eq off s ▸ s.thumbJump_jumps _⟩,
    ⟨_, rfl, ?blHi⟩, fun x hx => ⟨_, rfl, ?blLo⟩, rfl⟩
  case bx =>
    show execTBx hs s = _
    rw [execTBx, if_pos thumb]
  case bxArm =>
    show execTBx hs s = _
    rw [execTBx, if_neg (by simp only [arm, Bool.false_eq_true, not_false_eq_true])]
  case blHi =>
    have link : off.signExtend 32 <<< 12 = BitVec.ofInt 32 (4096 * off.toInt) := signExtend_shiftLeft off 12
    rw [link]
    exact .setReg s.charge1S_same _ _
  case blLo =>
    have half : off.setWidth 32 <<< 1 = BitVec.ofNat 32 (2 * off.toNat) := by
      refine BitVec.eq_of_toNat_eq ?_
      have := off.isLt
      rw [BitVec.toNat_shiftLeft, BitVec.toNat_setWidth, BitVec.toNat_ofNat, Nat.shiftLeft_eq]
      omega
    have ret : s.reg 15 - 2 = x + 2 := by rw [hx]; bv_omega
    rw [half, ret]
    exact .link _ _

end Sys2Proof.Machine
end

section
/-! PROOFS. The memory chain of the ARM, and the loads and stores of one register (R108, R490, R570 to R586). -/

namespace Sys2Proof.Machine

/-! ### What the chain does to each memory -/

/-- A refused access, in the terms of the statements. -/
theorem State.armIllegal_eq (b : Bool) (a : Word) (s : State) : s.armIllegal b a = s.refusedAccess b a := by
  unfold State.armIllegal State.refusedAccess
  cases s.params.abortOnMemoryFault <;> rfl

theorem State.armIllegal_varMem (b : Bool) (a : Word) (s : State) : (s.armIllegal b a).arm.varMem = s.arm.varMem := by
  rw [State.armIllegal_eq]; rfl

theorem State.armIllegal_progMem (b : Bool) (a : Word) (s : State) : (s.armIllegal b a).arm.progMem = s.arm.progMem := by
  rw [State.armIllegal_eq]; rfl

theorem Arm.periphWrite_mem (r : PeriphReg) (v : Word) (a : Arm) :
    (a.periphWrite r v).varMem = a.varMem ∧ (a.periphWrite r v).progMem = a.progMem := by
  cases r <;> exact ⟨rfl, rfl⟩

section Write

variable (s : State) (a v : Word) (n : Nat)

theorem State.armWrite_misaligned (h : a.toNat % n ≠ 0) : s.armWrite a n v = s.armIllegal false a := by
  simp only [State.armWrite, if_pos h]

theorem State.armWrite_variable (h : a.toNat % n = 0) (hv : s.params.inVariable a n = true) :
    s.armWrite a n v = s.mapArm (fun k => { k with varMem := k.varMem.writeLE a.toNat n v.toNat }) := by
  simp only [State.armWrite, h, hv, ne_eq, not_true_eq_false, if_false, if_true]

theorem State.armWrite_program (h : a.toNat % n = 0) (hv : s.params.inVariable a n = false)
    (hp : s.params.inProgram a n = true) : s.armWrite a n v =
      if s.params.programWritable then
        s.mapArm (fun k => { k with progMem := k.progMem.writeLE a.toNat n v.toNat })
      else s.armIllegal false a := by
  simp only [State.armWrite, h, hv, hp, ne_eq, not_true_eq_false, Bool.false_eq_true, if_false, if_true]

theorem State.armWrite_elsewhere (h : a.toNat % n = 0) (hv : s.params.inVariable a n = false)
    (hp : s.params.inProgram a n = false) : s.armWrite a n v =
      match s.params.peripheral a with
      | some r => s.mapArm (fun k => k.periphWrite r (lowBytes n v))
      | none => s.armIllegal false a := by
  simp only [State.armWrite, h, hv, hp, ne_eq, not_true_eq_false, Bool.false_eq_true, if_false] <;> rfl

/-- Variable memory after a write of the chain. -/
theorem State.armWrite_varMem : (s.armWrite a n v).arm.varMem =
    if a.toNat % n = 0 ∧ s.params.inVariable a n = true then s.arm.varMem.writeLE a.toNat n v.toNat
    else s.arm.varMem := by
  by_cases aligned : a.toNat % n = 0
  · cases hv : s.params.inVariable a n with
    | true => rw [s.armWrite_variable a v n aligned hv, if_pos ⟨aligned, rfl⟩]; rfl
    | false =>
      rw [if_neg (fun h => Bool.false_ne_true h.2)]
      cases hp : s.params.inProgram a n with
      | true =>
        rw [s.armWrite_program a v n aligned hv hp]
        split
        · rfl
        · exact s.armIllegal_varMem false a
      | false =>
        rw [s.armWrite_elsewhere a v n aligned hv hp]
        split
        · exact (Arm.periphWrite_mem _ _ _).1
        · exact s.armIllegal_varMem false a
  · rw [s.armWrite_misaligned a v n aligned, if_neg (fun h => aligned h.1)]
    exact s.armIllegal_varMem false a

/-- Program memory after a write of the chain. -/
theorem State.armWrite_progMem : (s.armWrite a n v).arm.progMem =
    if a.toNat % n = 0 ∧ s.params.inVariable a n = false ∧ s.params.inProgram a n = true ∧
      s.params.programWritable = true then s.arm.progMem.writeLE a.toNat n v.toNat
    else s.arm.progMem := by
  by_cases aligned : a.toNat % n = 0
  · cases hv : s.params.inVariable a n with
    | true => rw [s.armWrite_variable a v n aligned hv, if_neg (fun h => Bool.true_eq_false_eq_False h.2.1)]; rfl
    | false =>
      cases hp : s.params.inProgram a n with
      | true =>
        rw [s.armWrite_program a v n aligned hv hp]
        cases hw : s.params.programWritable with
        | true => rw [if_pos rfl, if_pos ⟨aligned, rfl, rfl, rfl⟩]; rfl
        | false =>
          rw [if_neg Bool.false_ne_true, if_neg (fun h => Bool.false_ne_true h.2.2.2)]
          exact s.armIllegal_progMem false a
      | false =>
        rw [s.armWrite_elsewhere a v n aligned hv hp, if_neg (fun h => Bool.false_ne_true h.2.2.1)]
        split
        · exact (Arm.periphWrite_mem _ _ _).2
        · exact s.armIllegal_progMem false a
  · rw [s.armWrite_misaligned a v n aligned, if_neg (fun h => aligned h.1)]
    exact s.armIllegal_progMem false a

/-- A write of the chain changes no byte outside its own. -/
theorem State.armWrite_outside {b : Nat} (h : b < a.toNat ∨ a.toNat + n ≤ b) :
    (s.armWrite a n v).arm.varMem.read b = s.arm.varMem.read b ∧
      (s.armWrite a n v).arm.progMem.read b = s.arm.progMem.read b := by
  rw [State.armWrite_varMem, State.armWrite_progMem]
  constructor
  · split
    · exact Memory.read_writeLE_outside _ _ _ h
    · rfl
  · split
    · exact Memory.read_writeLE_outside _ _ _ h
    · rfl

theorem State.armWrite_params : (s.armWrite a n v).params = s.params := by
  unfold State.armWrite State.armIllegal
  split_ifs <;> (try split) <;> rfl

end Write

/-! ### Stores -/

theorem words8_eq (imm : Byte) : BitVec.ofNat 32 (imm.toNat * 4) = words8 imm := by rw [Nat.mul_comm]; rfl

theorem scaled5_eq (k : Nat) (off : BitVec 5) : BitVec.ofNat 32 (off.toNat * k) = scaled5 k off := by
  rw [Nat.mul_comm]; rfl

theorem scaled5_one (off : BitVec 5) : BitVec.ofNat 32 off.toNat = scaled5 1 off := by rw [scaled5, Nat.one_mul]

theorem exec_thumbStoreRows (rd rb ro : LowReg) (off : BitVec 5) (imm : Byte) (s : State) :
    ∀ r ∈ thumbStoreRows rd rb ro off imm, exec r.1 s = .next (s.thumbStore rd (r.2.1 s) r.2.2) := by
  simp only [thumbStoreRows, words8_eq, scaled5_eq, scaled5_one]
  repeat refine List.forall_mem_cons.2 ⟨rfl, ?_⟩
  exact List.forall_mem_nil _

/-- A store is a write of the chain on a state that has been charged. -/
theorem State.thumbStore_same (rd : LowReg) (a : Word) (n : Nat) (s : State) :
    SameButCycles (s.armWrite a n (s.low rd)) (s.thumbStore rd a n) :=
  State.armWrite_congr (State.charge_same _ s) a n (s.low rd)

/-- Settles O47: the chain's write, and what it does to the two memories. -/
theorem thumbStores : Obligations.ThumbStores := by
  rintro s rd rb ro off imm r hr _ _ rfl rfl
  have same := s.thumbStore_same rd (r.2.1 s) r.2.2
  obtain ⟨regs, flags⟩ := s.armWrite_regs (r.2.1 s) r.2.2 (s.low rd)
  have rest := RestAlike.of_sansRegs same.rest
  refine ⟨_, exec_thumbStoreRows rd rb ro off imm s r hr, fun j => ?_, same.flags.trans flags, same.rest,
    fun hvar hprog => ⟨fun b hb => ?_, fun aligned inside => ?_⟩⟩
  · rw [same.reg]; unfold State.reg Arm.reg; simp only [regs]
  · rw [rest.varMem, rest.progMem]
    exact s.armWrite_outside _ _ _ hb
  · rw [rest.varMem, rest.progMem, s.armWrite_variable _ _ _ aligned inside]
    exact ⟨Memory.readLE_writeLE hvar _ _ _, rfl⟩

/-! ### Loads -/

theorem sext8_eq : (fun v : Word => (v.extractLsb' 0 8).signExtend 32) = sext8 := by
  funext v; rw [sext8, BitVec.setWidth_eq_extractLsb' (by decide)]

theorem sext16_eq : (fun v : Word => (v.extractLsb' 0 16).signExtend 32) = sext16 := by
  funext v; rw [sext16, BitVec.setWidth_eq_extractLsb' (by decide)]

theorem exec_thumbLoadRows (rd rb ro : LowReg) (off : BitVec 5) (imm : Byte) (s : State) :
    ∀ r ∈ thumbLoadRows rd rb ro off imm, exec r.1 s = .next (s.thumbLoad rd (r.2.1 s) r.2.2.1 r.2.2.2) := by
  simp only [thumbLoadRows, words8_eq, scaled5_eq, scaled5_one, sext8_eq, sext16_eq]
  repeat refine List.forall_mem_cons.2 ⟨rfl, ?_⟩
  exact List.forall_mem_nil _

/-- Settles O46: the chain's read on a state that has been charged, then one register. -/
theorem thumbLoads : Obligations.ThumbLoads := by
  rintro s rd rb ro off imm r hr _ rfl
  obtain ⟨value, same⟩ := State.armRead_congr
    (State.charge_same [.fetch true s.arm.executingPC, .data false (r.2.1 s), .internal] s) (r.2.1 s) r.2.2.1
  obtain ⟨regs, flags⟩ := s.armRead_regs (r.2.1 s) r.2.2.1
  refine ⟨_, exec_thumbLoadRows rd rb ro off imm s r hr, fun j => ?_, same.flags.trans flags, same.rest⟩
  have kept : ∀ k, ((s.charge [.fetch true s.arm.executingPC, .data false (r.2.1 s), .internal]).armRead (r.2.1 s)
      r.2.2.1).2.reg k = s.reg k := fun k => by
    rw [same.reg]; unfold State.reg Arm.reg; simp only [regs]
  rw [State.thumbLoad, State.reg_setLow, value]
  simp only [withReg, kept]

end Sys2Proof.Machine
end

section
/-! PROOFS. The memory chain of the ARM, clause by clause (R108, R490, R492, R493, R505). -/

namespace Sys2Proof.Machine

/-! ### Little-endian memory -/

theorem Memory.readLE_eq_sum (m : Memory) (k n : Nat) :
    m.readLE k n = ((List.range n).map (fun j => 256 ^ j * (m.read (k + j)).toNat)).sum := by
  induction n generalizing k with
  | zero => rfl
  | succ n ih =>
    have tail : ∀ j, 256 ^ (j + 1) * (m.read (k + (j + 1))).toNat = 256 * (256 ^ j * (m.read (k + 1 + j)).toNat) :=
      fun j => by rw [Nat.pow_succ, Nat.add_right_comm, Nat.add_assoc k j 1]; ring
    rw [Memory.readLE, ih, List.range_succ_eq_map, List.map_cons, List.sum_cons, List.map_map, Nat.pow_zero, Nat.one_mul,
      Nat.add_zero, ← List.sum_map_mul_left]
    simp only [Function.comp_def, Nat.succ_eq_add_one, tail]
    rfl

theorem Memory.readLE_lt (m : Memory) (k n : Nat) : m.readLE k n < 256 ^ n := by
  induction n generalizing k with
  | zero => exact Nat.one_pos
  | succ n ih =>
    have low := (m.read k).isLt
    have high := ih (k + 1)
    rw [Memory.readLE, Nat.pow_succ]
    omega

/-- The bytes after a write: those of the value within it, the old ones elsewhere. -/
theorem Memory.read_writeLE {m : Memory} (h : m.wf = true) (k n v b : Nat) : (m.writeLE k n v).read b =
    if k ≤ b ∧ b < k + n then BitVec.ofNat 8 (v / 256 ^ (b - k)) else m.read b := by
  induction n generalizing m k v with
  | zero => rw [if_neg (by omega)]; rfl
  | succ n ih =>
    rw [Memory.writeLE, ih (Memory.wf_write h _ _)]
    rcases Nat.lt_trichotomy b k with below | rfl | above
    · rw [if_neg (by omega), if_neg (by omega), Memory.read_write_other _ _ (by omega)]
    · rw [if_neg (by omega), if_pos (by omega), Memory.read_write_same h, Nat.sub_self, Nat.pow_zero, Nat.div_one]
    · have step : v / 256 / 256 ^ (b - (k + 1)) = v / 256 ^ (b - k) := by
        rw [Nat.div_div_eq_div_mul, ← Nat.pow_succ', show (b - (k + 1)).succ = b - k by omega]
      by_cases within : b < k + (n + 1)
      · rw [if_pos (by omega), if_pos (by omega), step]
      · rw [if_neg (by omega), if_neg (by omega), Memory.read_write_other _ _ (by omega)]

theorem byte_extractLsb' (v : Word) (j : Nat) : BitVec.ofNat 8 (v.toNat / 256 ^ j) = v.extractLsb' (8 * j) 8 := by
  refine BitVec.eq_of_toNat_eq ?_
  rw [BitVec.toNat_ofNat, BitVec.extractLsb'_toNat, Nat.shiftRight_eq_div_pow, Nat.pow_mul]

/-- A word's bytes after a write of the chain. -/
theorem Memory.read_writeLE_word {m : Memory} (h : m.wf = true) (a v : Word) (n b : Nat) :
    (m.writeLE a.toNat n v.toNat).read b =
      if a.toNat ≤ b ∧ b < a.toNat + n then v.extractLsb' (8 * (b - a.toNat)) 8 else m.read b := by
  rw [Memory.read_writeLE h, byte_extractLsb']

/-! ### Reads -/

section Read

variable (s : State) (a : Word) (n : Nat)

theorem State.armRead_misaligned (h : a.toNat % n ≠ 0) : s.armRead a n = (0, s.armIllegal true a) := by
  simp only [State.armRead, if_pos h]

theorem State.armRead_program (h : a.toNat % n = 0) (hp : s.params.inProgram a n = true) :
    s.armRead a n = (BitVec.ofNat 32 (s.arm.progMem.readLE a.toNat n), s) := by
  simp only [State.armRead, h, hp, ne_eq, not_true_eq_false, if_false, if_true]

theorem State.armRead_variable (h : a.toNat % n = 0) (hp : s.params.inProgram a n = false)
    (hv : s.params.inVariable a n = true) :
    s.armRead a n = (BitVec.ofNat 32 (s.arm.varMem.readLE a.toNat n), s) := by
  simp only [State.armRead, h, hp, hv, ne_eq, not_true_eq_false, Bool.false_eq_true, if_false, if_true]

theorem State.armRead_peripheral {r : PeriphReg} (h : a.toNat % n = 0) (hp : s.params.inProgram a n = false)
    (hv : s.params.inVariable a n = false) (hr : s.params.peripheral a = some r) :
    s.armRead a n = ((s.arm.periphRead r n).1, { s with arm := (s.arm.periphRead r n).2 }) := by
  simp only [State.armRead, h, hp, hv, hr, ne_eq, not_true_eq_false, Bool.false_eq_true, if_false]

theorem State.armRead_unclaimed (hp : s.params.inProgram a n = false) (hv : s.params.inVariable a n = false)
    (hr : s.params.peripheral a = none) : s.armRead a n = (0, s.armIllegal true a) := by
  simp only [State.armRead, hp, hv, hr, Bool.false_eq_true, if_false, ite_self]

end Read

theorem State.armWrite_unclaimed (s : State) (a v : Word) (n : Nat) (hp : s.params.inProgram a n = false)
    (hv : s.params.inVariable a n = false) (hr : s.params.peripheral a = none) :
    s.armWrite a n v = s.armIllegal false a := by
  simp only [State.armWrite, hp, hv, hr, Bool.false_eq_true, if_false, ite_self]

theorem State.armWrite_peripheral {r : PeriphReg} (s : State) (a v : Word) (n : Nat) (h : a.toNat % n = 0)
    (hp : s.params.inProgram a n = false) (hv : s.params.inVariable a n = false) (hr : s.params.peripheral a = some r) :
    s.armWrite a n v = s.mapArm (fun k => k.periphWrite r (lowBytes n v)) := by
  simp only [State.armWrite, h, hp, hv, hr, ne_eq, not_true_eq_false, Bool.false_eq_true, if_false]

/-- The low four bytes of a word are the word. -/
theorem lowBytes_four (v : Word) : lowBytes 4 v = v := by
  rw [lowBytes, Nat.mod_eq_of_lt (show v.toNat < 256 ^ 4 from v.isLt), BitVec.ofNat_toNat, BitVec.setWidth_eq]

/-- A word read from memory is its bytes. -/
theorem toNat_ofNat_readLE (m : Memory) (k : Nat) {n : Nat} (hn : n ∈ [1, 2, 4]) :
    (BitVec.ofNat 32 (m.readLE k n)).toNat = ((List.range n).map (fun j => 256 ^ j * (m.read (k + j)).toNat)).sum := by
  have small : n ≤ 4 := by
    simp only [List.mem_cons, List.not_mem_nil, or_false] at hn
    omega
  have fits : m.readLE k n < 2 ^ 32 :=
    lt_of_lt_of_le (m.readLE_lt k n) (Nat.pow_le_pow_right (n := 256) (by decide) small)
  rw [BitVec.toNat_ofNat, Nat.mod_eq_of_lt fits, Memory.readLE_eq_sum]

/-! ### The default map (log 6) -/

/-- An address of the default map, which no memory claims. -/
structure DefaultRegister (a : Word) (r : PeriphReg) : Prop where
  aligned : a.toNat % 4 = 0
  program : ({} : Params).inProgram a 4 = false
  inVar : ({} : Params).inVariable a 4 = false
  register : ({} : Params).peripheral a = some r

theorem DefaultRegister.read {a : Word} {r : PeriphReg} (h : DefaultRegister a r) {s : State} (hs : s.params = {}) :
    s.armRead a 4 = ((s.arm.periphRead r 4).1, { s with arm := (s.arm.periphRead r 4).2 }) :=
  s.armRead_peripheral a 4 h.aligned (hs ▸ h.program) (hs ▸ h.inVar) (hs ▸ h.register)

theorem DefaultRegister.write {a : Word} {r : PeriphReg} (h : DefaultRegister a r) {s : State} (hs : s.params = {})
    (v : Word) : s.armWrite a 4 v = s.mapArm (fun k => k.periphWrite r v) := by
  rw [s.armWrite_peripheral a v 4 h.aligned (hs ▸ h.program) (hs ▸ h.inVar) (hs ▸ h.register), lowBytes_four]

theorem defaultRegister_timerCtrl : DefaultRegister 0xE0008004 .timerCtrl := ⟨rfl, rfl, rfl, rfl⟩
theorem defaultRegister_timerCount : DefaultRegister 0xE0008008 .timerCount := ⟨rfl, rfl, rfl, rfl⟩
theorem defaultRegister_rngData : DefaultRegister 0x50060808 .rngData := ⟨rfl, rfl, rfl, rfl⟩
theorem defaultRegister_mamcr : DefaultRegister 0xE01FC000 .mamcr := ⟨rfl, rfl, rfl, rfl⟩
theorem defaultRegister_mamtim : DefaultRegister 0xE01FC004 .mamtim := ⟨rfl, rfl, rfl, rfl⟩

/-- Settles O52: each clause is one branch of the chain. -/
theorem armMemoryChain : Obligations.ArmMemoryChain := by
  intro s a v n hn
  refine ⟨fun h => ?misaligned, fun hp hv hr => ?unclaimed, fun h hp => ?program, fun h hp hv => ?varMem,
    fun h hv hw t ht => ?writeVariable, fun h hv hp hw => ?readOnly, fun h hv hp hw hm t ht => ?writeProgram,
    fun hs k hk => ?peripherals⟩
  case misaligned =>
    rw [s.armRead_misaligned a n h, s.armWrite_misaligned a v n h, State.armIllegal_eq, State.armIllegal_eq]
    exact ⟨rfl, rfl⟩
  case unclaimed =>
    rw [s.armRead_unclaimed a n hp hv hr, s.armWrite_unclaimed a v n hp hv hr, State.armIllegal_eq, State.armIllegal_eq]
    exact ⟨rfl, rfl⟩
  case program =>
    rw [s.armRead_program a n h hp]
    exact ⟨rfl, toNat_ofNat_readLE _ _ hn⟩
  case varMem =>
    rw [s.armRead_variable a n h hp hv]
    exact ⟨rfl, toNat_ofNat_readLE _ _ hn⟩
  case writeVariable =>
    rw [ht, s.armWrite_variable a v n h hv]
    exact ⟨Memory.read_writeLE_word hw a v n, rfl⟩
  case readOnly =>
    rw [s.armWrite_program a v n h hv hp, hw, if_neg Bool.false_ne_true, State.armIllegal_eq]
  case writeProgram =>
    rw [ht, s.armWrite_program a v n h hv hp, hw, if_pos rfl]
    exact ⟨Memory.read_writeLE_word hm a v n, rfl⟩
  case peripherals =>
    subst hk
    rw [defaultRegister_timerCtrl.read hs, defaultRegister_timerCount.read hs, defaultRegister_mamcr.read hs,
      defaultRegister_mamtim.read hs, defaultRegister_rngData.read hs, defaultRegister_timerCtrl.write hs,
      defaultRegister_mamcr.write hs, defaultRegister_mamtim.write hs, defaultRegister_rngData.write hs]
    simp only [Arm.periphRead, Arm.periphWrite, lowBytes_four, State.mapArm, BitVec.setWidth_eq_extractLsb',
      Nat.reduceLeDiff, true_and, and_true]
    rfl

end Sys2Proof.Machine
end

section
/-! PROOFS. The end of an ARM instruction, and the step that runs one (R471, R476, R479 to R482, R485, R486, R492, R498). -/

namespace Sys2Proof.Machine

/-! ### Where execution goes on -/

section Retire

variable {s : State} {x : Word}

theorem State.retirePC_next (h : s.arm.wrotePC = false) :
    s.retirePC x = .ok (s.mapArm fun a => { a with executingPC := x + 2, instructionPC := x + 2 }) := by
  simp only [State.retirePC, h, Bool.false_eq_true, if_false]

theorem State.retirePC_end (h : s.arm.wrotePC = true) (ht : s.reg 15 = s.params.armResetLr &&& 0xFFFFFFFE) :
    s.retirePC x = .ok ((s.mapArm (Arm.atPC (s.reg 15))).mapArm fun a => { a with yield := .programEnded }) := by
  simp only [State.retirePC, h, if_true, State.mapArm_params]
  exact if_pos ht

theorem State.retirePC_jump (h : s.arm.wrotePC = true) (ht : s.reg 15 ≠ s.params.armResetLr &&& 0xFFFFFFFE)
    (hf : s.params.entryTag (s.reg 15) = none) : s.retirePC x = .ok (s.mapArm (Arm.atPC (s.reg 15))) := by
  simp only [State.retirePC, h, if_true, State.mapArm_params, hf]
  exact if_neg ht

theorem State.retirePC_entry {f : FnTag} (h : s.arm.wrotePC = true)
    (ht : s.reg 15 ≠ s.params.armResetLr &&& 0xFFFFFFFE) (hf : s.params.entryTag (s.reg 15) = some f) :
    s.retirePC x = if (s.params.functionSteps f).isSome then .ok ((s.mapArm (Arm.atPC (s.reg 15))).startFunction f)
      else .error (.refused .unknownStrongArmFunction) := by
  simp only [State.retirePC, h, if_true, State.mapArm_params, hf]
  exact if_neg ht

end Retire

theorem Params.entryTag_none {p : Params} {t : Word} (h : ∀ e ∈ p.strongArmEntries, e.1 ≠ t) : p.entryTag t = none := by
  rw [Params.entryTag, List.find?_eq_none.2 fun e he => by simpa using h e he]; rfl

/-- `R[0..3]` are as before the PC write took effect. -/
theorem State.reg_atPC (s : State) (t : Word) {j : AnyReg} (h : j ≠ 15) : (s.mapArm (Arm.atPC t)).reg j = s.reg j :=
  (Arm.reg_setReg 15 j (t + 2) s.arm).trans (if_neg h)

/-! ### What is booked -/

theorem Params.unit_pos (p : Params) : 0 < p.unit :=
  Nat.mul_pos (Nat.mul_pos (by decide) (lt_max_of_lt_right Nat.one_pos)) (lt_max_of_lt_right Nat.one_pos)

theorem Timer.advance_stopped {t : Timer} (unit units : Nat) (h : t.ctrl.getLsbD 0 = false) :
    t.advance unit units = t := by
  simp only [Timer.advance, h, Bool.false_eq_true, if_false]

theorem Timer.advance_running {t : Timer} (unit units : Nat) (h : t.ctrl.getLsbD 0 = true) :
    t.advance unit units =
      { t with count := t.count + BitVec.ofNat 32 ((t.frac + units) / unit), frac := (t.frac + units) % unit } := by
  simp only [Timer.advance, h, if_true]

/-- Settles O53: the cases of the retirement, then the booking of a timer. -/
theorem armInstructionEnd : Obligations.ArmInstructionEnd := by
  refine ⟨?retire, ?book⟩
  case retire =>
    rintro s x _ rfl
    refine ⟨State.retirePC_next, fun wrote u hu => ?_⟩
    have hu' : u = s.mapArm (Arm.atPC (s.reg 15)) := hu
    refine ⟨fun ended => ?_, fun ht => ⟨fun none => ?_, fun f hf => ⟨fun known => ?_, fun unknown => ?_⟩⟩⟩
    · rw [State.retirePC_end wrote ended, hu']; rfl
    · rw [State.retirePC_jump wrote ht (Params.entryTag_none none), hu']
    · rw [State.retirePC_entry wrote ht hf, if_pos known, hu', State.startFunction, s.reg_atPC _ (by decide),
        s.reg_atPC _ (by decide), s.reg_atPC _ (by decide), s.reg_atPC _ (by decide)]
    · rw [State.retirePC_entry wrote ht hf, unknown, if_neg Bool.false_ne_true]
  case book =>
    rintro p a b rfl
    have timer : ∀ t : Timer, (t.ctrl.getLsbD 0 = false → t.advance p.unit a.instrUnits = t) ∧
        (t.ctrl.getLsbD 0 = true → (t.advance p.unit a.instrUnits).ctrl = t.ctrl ∧
          (t.advance p.unit a.instrUnits).frac < p.unit ∧
          ∃ whole, whole * p.unit + (t.advance p.unit a.instrUnits).frac = t.frac + a.instrUnits ∧
            (t.advance p.unit a.instrUnits).count = t.count + BitVec.ofNat 32 whole) := by
      refine fun t => ⟨Timer.advance_stopped _ _, fun running => ?_⟩
      rw [Timer.advance_running _ _ running]
      exact ⟨rfl, Nat.mod_lt _ p.unit_pos, _, Nat.div_add_mod' _ _, rfl⟩
    exact ⟨rfl, rfl, rfl, rfl, rfl,
      List.forall_mem_cons.2 ⟨timer a.timer, List.forall_mem_singleton.2 (timer a.timer2)⟩⟩

/-! ### The step that runs one instruction -/

/-- A read of the chain keeps the parameters and the accounts of the run. -/
theorem State.armFetch_reg (s : State) : s.armFetch.2.reg 15 = s.arm.executingPC + 4 :=
  (Arm.reg_setReg 15 15 (s.arm.executingPC + 4) _).trans (if_pos rfl)

/-- A fetch from program memory (R476). -/
theorem State.armFetch_program {s : State} (h : s.params.fetchable s.arm.executingPC = true) :
    s.armFetch = (BitVec.ofNat 16 (s.arm.progMem.readLE s.arm.executingPC.toNat 2),
      s.mapArm (Arm.beginInstr s.arm.executingPC)) := by
  obtain ⟨aligned, inside⟩ := Bool.and_eq_true_iff.1 h
  simp only [State.armFetch, s.armRead_program _ 2 (of_decide_eq_true aligned) inside]
  refine Prod.ext (BitVec.eq_of_toNat_eq ?_) rfl
  rw [BitVec.toNat_setWidth, BitVec.toNat_ofNat, BitVec.toNat_ofNat]
  exact Nat.mod_mod_of_dvd _ (by decide)

/-- A step of a `Run()` in progress is one turn of its loop. -/
theorem step_of_running {s : State} (config : s.configRefusal = none) (cart : s.mapper.variant = .coproc)
    (running : s.arm.yield = .running) : step s = run s.armResume := by
  simp only [step, config, cart, running, and_self, if_true]

theorem thumbExec_of_decodeThumb {w : Half} {i : Instr} (h : decodeThumb w = .ok i) :
    ∃ j, decodeHalf w = .ok j ∧ i = j.toInstr := by
  unfold decodeThumb at h
  cases hd : decodeHalf w with
  | error e => rw [hd] at h; exact absurd h nofun
  | ok j => rw [hd] at h; exact ⟨j, rfl, (Except.ok.inj h).symm⟩

/-- Settles O7: the turn of the loop with the interrupt and the breakpoint ruled out. -/
theorem stepRunsThumb : Obligations.StepRunsThumb := by
  rintro s ⟨config, cart, running, noInterrupt, noBreak⟩ f rfl
  have breaks : (!s.arm.skipBreak && s.params.breakpoints.contains s.arm.executingPC) = false := by
    rcases noBreak with h | h
    · rw [h]; rfl
    · rw [h, Bool.and_false]
  have turn : step s = run (match (s.mapArm fun a => { a with skipBreak := false }).armInstr with
      | .error e => .error e
      | .ok t =>
        if t.overLimit then .error (.fault .armLimit)
        else .ok (if t.arm.yield = .running then t else t.endRun)) := by
    rw [step_of_running config cart running, State.armResume, State.armIterate]
    simp only [noInterrupt, breaks, Bool.false_eq_true, if_false]
    cases (s.mapArm fun a => { a with skipBreak := false }).armInstr with
    | error e => rfl
    | ok t => cases limit : t.overLimit <;> simp only [limit, Bool.false_eq_true, if_false, if_true]
  refine ⟨State.armFetch_reg _, rfl, fun fetch => ?_, fun e undefined => ?_, fun i decoded => ⟨fun e fault => ?_,
    fun r refused => ?_, fun t done => ?_⟩⟩
  · rw [State.armFetch_program (s := s.mapArm fun a => { a with skipBreak := false }) fetch]
    exact ⟨rfl, rfl⟩
  · rw [turn, State.armInstr]
    simp only [undefined]; rfl
  all_goals obtain ⟨j, hj, rfl⟩ := thumbExec_of_decodeThumb decoded
  · rw [exec_toInstr] at fault
    rw [turn, State.armInstr]
    simp only [hj, fault]; rfl
  · rw [exec_toInstr] at refused
    rw [turn, State.armInstr]
    simp only [hj, refused]; rfl
  · rw [exec_toInstr] at done
    rw [turn, State.armInstr]
    simp only [hj, done]
    rw [show (s.mapArm fun a => { a with skipBreak := false }).arm.executingPC = s.arm.executingPC from rfl]
    cases t.retirePC s.arm.executingPC with
    | error e => rfl
    | ok u =>
      dsimp only
      congr 1
      split
      · rfl
      · by_cases on : u.arm.yield = .running
        · rw [if_pos on]; exact congrArg Except.ok (if_pos on)
        · rw [if_neg on]; exact congrArg Except.ok (if_neg on)

end Sys2Proof.Machine
end

section
/-! PROOFS. The block transfers of the ARM: the registers of a list, and the words through the chain (R490, R591 to R594). -/

namespace Sys2Proof.Machine

/-! ### Lists of registers -/

theorem mem_listRegs (list : Byte) (j : AnyReg) : j ∈ listRegs list ↔ inList list j := by
  simp only [listRegs, List.mem_map, List.mem_filter, List.mem_range, inList]
  constructor
  · rintro ⟨i, ⟨hi, bit⟩, rfl⟩
    have small : (BitVec.ofNat 4 i).toNat = i := by
      rw [BitVec.toNat_ofNat]; omega
    rw [small]
    exact ⟨hi, bit⟩
  · rintro ⟨hj, bit⟩
    exact ⟨j.toNat, ⟨hj, bit⟩, by rw [BitVec.ofNat_toNat, BitVec.setWidth_eq]⟩

theorem pairwise_listRegs (list : Byte) : (listRegs list).Pairwise (fun i j => i.toNat < j.toNat) := by
  refine List.Pairwise.map _ ?_ ((List.pairwise_lt_range (n := 8)).imp_of_mem ?_ |>.filter _) (R := fun i j => i < j ∧ j < 8)
  · rintro i j ⟨hij, hj⟩
    rw [BitVec.toNat_ofNat, BitVec.toNat_ofNat]
    omega
  · intro i j _ hj hij
    exact ⟨hij, List.mem_range.1 hj⟩

/-- Two ascending lists of the same registers are the same. -/
theorem Ascending.unique {regs regs' : List AnyReg} {p : AnyReg → Prop} (h : Ascending regs p) (h' : Ascending regs' p) :
    regs = regs' := by
  refine List.Perm.eq_of_pairwise (le := fun i j : AnyReg => i.toNat < j.toNat) (fun i j _ _ hij hji => by omega) h.1 h'.1 ?_
  have nodup : ∀ {l : List AnyReg}, l.Pairwise (fun i j => i.toNat < j.toNat) → l.Nodup := fun hl =>
    hl.imp fun hij e => by rw [e] at hij; exact Nat.lt_irrefl _ hij
  exact (List.perm_ext_iff_of_nodup (nodup h.1) (nodup h'.1)).2 fun j => (h.2 j).trans (h'.2 j).symm

theorem ascending_listRegs (list : Byte) : Ascending (listRegs list) (inList list) :=
  ⟨pairwise_listRegs list, mem_listRegs list⟩

theorem ascending_pushRegs (r : BitVec 1) (list : Byte) :
    Ascending (pushRegs r list) (fun j => inList list j ∨ (r = 1 ∧ j = 14)) := by
  constructor
  · rw [pushRegs, List.pairwise_append]
    refine ⟨pairwise_listRegs list, by split <;> simp, fun i hi j hj => ?_⟩
    have low := ((mem_listRegs list i).1 hi).1
    split at hj
    · rw [List.mem_singleton.1 hj]
      exact lt_trans low (by decide)
    · exact absurd hj List.not_mem_nil
  · intro j
    rw [pushRegs, List.mem_append, mem_listRegs]
    split
    · next h => simp [h]
    · next h =>
      exact ⟨fun m => .inl (m.resolve_right List.not_mem_nil), fun m => .inl (m.resolve_right fun e => h e.1)⟩

/-! ### Words written -/

/-- Storing registers is writing their words, whatever was charged before. -/
theorem State.storeRegs_same (regs : List AnyReg) {s t : State} (h : SameButCycles s t) (a : Word) :
    SameButCycles (s.wroteWords a (regs.map s.reg)) (t.storeRegs regs a) := by
  induction regs generalizing s t a with
  | nil => exact h
  | cons r rest ih =>
    have next := State.armWrite_congr h a 4 (s.reg r)
    have kept : ∀ j, (s.armWrite a 4 (s.reg r)).reg j = s.reg j := fun j => by
      unfold State.reg Arm.reg; simp only [(s.armWrite_regs a 4 _).1]
    have same := ih next (a + 4)
    simp only [kept] at same
    rw [State.storeRegs, h.reg]
    exact same

theorem State.wroteWords_regs (s : State) (a : Word) (ws : List Word) :
    (s.wroteWords a ws).arm.r = s.arm.r ∧ (s.wroteWords a ws).armFlags = s.armFlags := by
  induction ws generalizing s a with
  | nil => exact ⟨rfl, rfl⟩
  | cons w rest ih =>
    obtain ⟨regs, flags⟩ := ih (s.armWrite a 4 w) (a + 4)
    exact ⟨regs.trans (s.armWrite_regs a 4 w).1, flags.trans (s.armWrite_regs a 4 w).2⟩

theorem State.wroteWords_reg (s : State) (a : Word) (ws : List Word) (j : AnyReg) :
    (s.wroteWords a ws).reg j = s.reg j := by
  unfold State.reg Arm.reg; simp only [(s.wroteWords_regs a ws).1]

/-- The address of the next word of a block. -/
theorem word_succ (a : Word) (k : Nat) : a + BitVec.ofNat 32 (4 * (k + 1)) = a + 4 + BitVec.ofNat 32 (4 * k) := by
  rw [Nat.mul_add, BitVec.ofNat_add, BitVec.add_comm (BitVec.ofNat 32 (4 * k)), ← BitVec.add_assoc]
  rfl

/-- Words written change no byte outside them. -/
theorem State.wroteWords_outside (ws : List Word) (s : State) (a : Word) : SameOutside s (s.wroteWords a ws) a ws.length := by
  induction ws generalizing s a with
  | nil => exact fun _ _ _ _ => ⟨rfl, rfl⟩
  | cons w rest ih =>
    intro hv hp b hb
    have here := s.armWrite_outside a w 4 (b := b) (by simpa using hb 0 (Nat.succ_pos _))
    have wfv : (s.armWrite a 4 w).arm.varMem.wf = true := by
      rw [s.armWrite_varMem]; split
      · exact Memory.wf_writeLE hv _ _ _
      · exact hv
    have wfp : (s.armWrite a 4 w).arm.progMem.wf = true := by
      rw [s.armWrite_progMem]; split
      · exact Memory.wf_writeLE hp _ _ _
      · exact hp
    have rest := ih (s.armWrite a 4 w) (a + 4) wfv wfp b fun k hk => by
      rw [← word_succ]; exact hb (k + 1) (Nat.succ_lt_succ hk)
    exact ⟨rest.1.trans here.1, rest.2.trans here.2⟩

/-- Words written one after the other in a memory. -/
def Memory.writeWords (m : Memory) (k : Nat) : List Word → Memory
  | [] => m
  | w :: rest => (m.writeLE k 4 w.toNat).writeWords (k + 4) rest

theorem Memory.read_writeWords_outside (m : Memory) {k b : Nat} (ws : List Word) (h : b < k ∨ k + 4 * ws.length ≤ b) :
    (m.writeWords k ws).read b = m.read b := by
  induction ws generalizing m k with
  | nil => rfl
  | cons w rest ih =>
    rw [List.length_cons] at h
    rw [Memory.writeWords, ih _ (by omega), Memory.read_writeLE_outside _ _ _ (by omega)]

theorem Memory.readLE_congr {m l : Memory} {k n : Nat} (h : ∀ j, k ≤ j → j < k + n → m.read j = l.read j) :
    m.readLE k n = l.readLE k n := by
  induction n generalizing k with
  | zero => rfl
  | succ n ih =>
    rw [Memory.readLE, Memory.readLE, h k (le_refl _) (by omega), ih fun j hj hj' => h j (by omega) (by omega)]

/-- A written word is read back. -/
theorem Memory.readLE_writeWords {m : Memory} (hm : m.wf = true) (k : Nat) (ws : List Word) (i : Nat) (hi : i < ws.length) :
    (m.writeWords k ws).readLE (k + 4 * i) 4 = ws[i].toNat := by
  induction ws generalizing m k i with
  | nil => exact absurd hi (Nat.not_lt_zero _)
  | cons w rest ih =>
    have wf := Memory.wf_writeLE hm k 4 w.toNat
    cases i with
    | zero =>
      have here : (m.writeWords k (w :: rest)).readLE k 4 = (m.writeLE k 4 w.toNat).readLE k 4 :=
        Memory.readLE_congr fun j _ hj =>
          (m.writeLE k 4 w.toNat).read_writeWords_outside (k := k + 4) rest (.inl (by omega))
      rw [Nat.mul_zero, Nat.add_zero, here, Memory.readLE_writeLE hm]
      exact Nat.mod_eq_of_lt (show w.toNat < 256 ^ 4 from w.isLt)
    | succ i =>
      rw [Memory.writeWords, show k + 4 * (i + 1) = k + 4 + 4 * i by omega, ih wf (k + 4) i (Nat.lt_of_succ_lt_succ hi)]
      rfl

/-- The first word of a block, and the block after it. -/
theorem State.variableWords_succ {s : State} {a : Word} {n : Nat} (h : s.variableWords a (n + 1)) :
    a.toNat % 4 = 0 ∧ s.params.inProgram a 4 = false ∧ s.params.inVariable a 4 = true ∧
      (0 < n → (a + 4).toNat = a.toNat + 4 ∧ s.variableWords (a + 4) n) := by
  obtain ⟨aligned, low, high, wrap, program⟩ := h
  refine ⟨aligned, by simpa using program 0 (Nat.succ_pos _), decide_eq_true ⟨low, by omega⟩, fun hn => ?_⟩
  have step : (a + 4).toNat = a.toNat + 4 := by
    rw [BitVec.toNat_add]
    exact Nat.mod_eq_of_lt (by simp; omega)
  exact ⟨step, by omega, by omega, by omega, by omega, fun k hk => by
    rw [← word_succ]; exact program (k + 1) (Nat.succ_lt_succ hk)⟩

/-- A block written within variable memory. -/
theorem State.wroteWords_variable (ws : List Word) {s : State} {a : Word} (h : s.variableWords a ws.length) :
    s.wroteWords a ws = s.mapArm fun k => { k with varMem := k.varMem.writeWords a.toNat ws } := by
  induction ws generalizing s a with
  | nil => rfl
  | cons w rest ih =>
    obtain ⟨aligned, -, inside, next⟩ := State.variableWords_succ h
    rw [State.wroteWords, s.armWrite_variable a w 4 aligned inside]
    cases rest with
    | nil => rfl
    | cons w' rest' =>
      obtain ⟨step, block⟩ := next (Nat.succ_pos _)
      rw [ih (s := s.mapArm fun k => { k with varMem := k.varMem.writeLE a.toNat 4 w.toNat }) block, step]
      rfl

/-- The registers stand in variable memory after a block of it was written. -/
theorem State.storedWords_wroteWords {s : State} {a : Word} {regs : List AnyReg} (h : s.variableWords a regs.length)
    (hm : s.arm.varMem.wf = true) {t : State}
    (ht : t.arm.varMem = (s.wroteWords a (regs.map s.reg)).arm.varMem) : StoredWords s t a regs := by
  rw [State.wroteWords_variable _ (by rwa [List.length_map])] at ht
  refine ⟨fun k hk => ?_, fun b hb => ?_⟩
  · rw [ht]
    have read := Memory.readLE_writeWords hm a.toNat (regs.map s.reg) k (by rwa [List.length_map])
    rw [List.getElem_map] at read
    exact read
  · rw [ht]
    exact Memory.read_writeWords_outside _ _ (by rwa [List.length_map])

end Sys2Proof.Machine
end

section
/-! PROOFS. PUSH and STMIA (R490, R494, R591, R593). -/

namespace Sys2Proof.Machine

/-! ### The stack check -/

theorem State.checkedSp_sansRegs {s t : State} (h : t.sansRegs = s.sansRegs) (v : Word) :
    (t.checkedSp v).sansRegs = (s.checkedSp v).sansRegs := by
  have commutes : ∀ w : State, (w.checkedSp v).sansRegs = (w.sansRegs.checkedSp v).sansRegs := by
    intro w
    unfold State.checkedSp
    rw [show w.sansRegs.collides v = w.collides v from rfl]
    split <;> rfl
  rw [commutes t, commutes s, h]

theorem State.checkedSp_regs (s : State) (v : Word) :
    (s.checkedSp v).arm.r = s.arm.r ∧ (s.checkedSp v).armFlags = s.armFlags ∧
      (s.checkedSp v).arm.varMem = s.arm.varMem ∧ (s.checkedSp v).arm.progMem = s.arm.progMem := by
  unfold State.checkedSp
  split <;> exact ⟨rfl, rfl, rfl, rfl⟩

/-- The stack check does not look at variable memory. -/
theorem State.checkedSp_sansVar (s : State) (v : Word) (f : Memory → Memory) :
    ((s.mapArm fun k => { k with varMem := f k.varMem }).checkedSp v).sansVar = (s.checkedSp v).sansVar := by
  unfold State.checkedSp
  rw [show (s.mapArm fun k => { k with varMem := f k.varMem }).collides v = s.collides v from rfl]
  split <;> rfl

/-! ### What both block stores leave -/

/-- Memories of states alike but for registers. -/
theorem SameOutside.congr {s u t : State} {a : Word} {n : Nat} (h : SameOutside s u a n)
    (hv : t.arm.varMem = u.arm.varMem) (hp : t.arm.progMem = u.arm.progMem) : SameOutside s t a n := by
  intro wv wp b hb
  rw [hv, hp]
  exact h wv wp b hb

theorem State.sansVar_sansRegs (s : State) : s.sansVar.sansRegs = s.sansRegs.sansVar := rfl

theorem tPush_refused {r : BitVec 1} {list : Byte} (h : pushRegs r list = []) (s : State) :
    exec (.tPush r list) s = .refused .emptyRegisterList := by
  show execTPush r list s = _
  simp only [execTPush, h, if_true]

/-- PUSH in the terms of the statement. -/
theorem tPush_stores {r : BitVec 1} {list : Byte} {regs : List AnyReg} {a : Word} (s : State)
    (hregs : pushRegs r list = regs) (ha : a = s.reg 13 - BitVec.ofNat 32 (4 * regs.length)) (h : regs ≠ []) :
    ∃ t, exec (.tPush r list) s = .next t ∧ (∀ j, t.reg j = withReg 13 a s.reg j) ∧ t.armFlags = s.armFlags ∧
      t.sansRegs = ((s.wroteWords a (regs.map s.reg)).checkedSp a).sansRegs ∧ SameOutside s t a regs.length ∧
      (s.variableWords a regs.length → s.arm.varMem.wf = true → StoredWords s t a regs ∧
        t.sansVar.sansRegs = (s.checkedSp a).sansVar.sansRegs) := by
  subst hregs ha
  obtain ⟨a, ha⟩ : ∃ a, a = s.reg 13 - BitVec.ofNat 32 (4 * (pushRegs r list).length) := ⟨_, rfl⟩
  rw [← ha]
  have runs : exec (.tPush r list) s = .next
      (((s.charge (.fetch false s.arm.executingPC :: multiData a (pushRegs r list).length)).storeRegs (pushRegs r list)
        a).setRegChecked 13 a) := by
    show execTPush r list s = _
    simp only [execTPush, if_neg h, bytesOf, ← ha]
  have same := State.storeRegs_same (pushRegs r list)
    (State.charge_same (.fetch false s.arm.executingPC :: multiData a (pushRegs r list).length) s) a
  obtain ⟨regs, flags, rest⟩ := State.setRegChecked_sp same a
  obtain ⟨-, -, checkedVar, checkedProg⟩ := (s.wroteWords a ((pushRegs r list).map s.reg)).checkedSp_regs a
  have alike := RestAlike.of_sansRegs rest
  refine ⟨_, runs, fun j => ?_, flags.trans (s.wroteWords_regs a _).2, rest, ?_, fun block wf => ⟨?_, ?_⟩⟩
  · rw [regs]
    simp only [withReg, State.wroteWords_reg]
  · have outside := s.wroteWords_outside ((pushRegs r list).map s.reg) a
    rw [List.length_map] at outside
    exact outside.congr (alike.varMem.trans checkedVar) (alike.progMem.trans checkedProg)
  · exact State.storedWords_wroteWords block wf (alike.varMem.trans checkedVar)
  · rw [State.sansVar_sansRegs, rest, State.wroteWords_variable _ (by rwa [List.length_map]), ← State.sansVar_sansRegs]
    exact congrArg State.sansRegs
      (s.checkedSp_sansVar a fun m => m.writeWords a.toNat ((pushRegs r list).map s.reg))

/-! ### STMIA -/

theorem inList_lowReg (list : Byte) (rb : LowReg) : inList list (lowReg rb) ↔ list.getLsbD rb.toNat = true := by
  rw [inList, lowReg_toNat]
  exact and_iff_right rb.isLt

/-- The low bits of a byte, as the registers below one. -/
theorem exists_below_iff (list : Byte) (n : Nat) (hn : n ≤ 8) :
    (∃ j ∈ listRegs list, j.toNat < n) ↔ list.toNat % 2 ^ n ≠ 0 := by
  constructor
  · rintro ⟨j, hj, below⟩ zero
    have bit := ((mem_listRegs list j).1 hj).2
    have : (list.toNat % 2 ^ n).testBit j.toNat = true := by
      rw [Nat.testBit_mod_two_pow, decide_eq_true below, Bool.true_and]; exact bit
    rw [zero, Nat.zero_testBit] at this
    exact Bool.false_ne_true this
  · intro nonzero
    by_contra none
    refine nonzero (Nat.zero_of_testBit_eq_false fun i => ?_)
    rw [Nat.testBit_mod_two_pow]
    by_cases hi : i < n
    · rw [decide_eq_true hi, Bool.true_and]
      cases bit : list.toNat.testBit i with
      | false => rfl
      | true =>
        have small : (BitVec.ofNat 4 i).toNat = i := by rw [BitVec.toNat_ofNat]; omega
        exact absurd ⟨BitVec.ofNat 4 i, (mem_listRegs _ _).2 ⟨by omega, by rw [small]; exact bit⟩, by omega⟩ none
    · rw [decide_eq_false hi, Bool.false_and]

theorem baseNotLowest_iff (rb : LowReg) (list : Byte) : baseNotLowest rb list = true ↔
    inList list (lowReg rb) ∧ ∃ j ∈ listRegs list, j.toNat < rb.toNat := by
  rw [inList_lowReg, exists_below_iff list rb.toNat (Nat.le_of_lt rb.isLt), baseNotLowest, Bool.and_eq_true, bne_iff_ne]

theorem tStmia_empty {list : Byte} (h : listRegs list = []) (rb : LowReg) (s : State) :
    exec (.tStmia rb list) s = .refused .emptyRegisterList := by
  show execTStmia rb list s = _
  simp only [execTStmia, h, if_true]

theorem tStmia_notLowest {rb : LowReg} {list : Byte} (h : baseNotLowest rb list = true) (hne : listRegs list ≠ [])
    (s : State) : exec (.tStmia rb list) s = .refused .stmiaBaseNotLowest := by
  show execTStmia rb list s = _
  simp only [execTStmia, if_neg hne, h, if_true]

/-- STMIA in the terms of the statement. -/
theorem tStmia_stores {rb : LowReg} {list : Byte} (s : State) (hne : listRegs list ≠ [])
    (lowest : baseNotLowest rb list = false) {a : Word} (ha : a = s.low rb) :
    ∃ t, exec (.tStmia rb list) s = .next t ∧
      (∀ j, t.reg j = withReg (lowReg rb) (a + BitVec.ofNat 32 (4 * (listRegs list).length)) s.reg j) ∧
      t.armFlags = s.armFlags ∧ t.sansRegs = (s.wroteWords a ((listRegs list).map s.reg)).sansRegs ∧
      SameOutside s t a (listRegs list).length ∧
      (s.variableWords a (listRegs list).length → s.arm.varMem.wf = true → StoredWords s t a (listRegs list) ∧
        t.sansVar.sansRegs = s.sansVar.sansRegs) := by
  have runs : exec (.tStmia rb list) s = .next
      (((s.charge (.fetch false s.arm.executingPC :: multiData a (listRegs list).length)).storeRegs (listRegs list)
        a).setLow rb (a + bytesOf (listRegs list))) := by
    show execTStmia rb list s = _
    simp only [execTStmia, if_neg hne, lowest, Bool.false_eq_true, if_false, ← ha]
  have same := State.storeRegs_same (listRegs list)
    (State.charge_same (.fetch false s.arm.executingPC :: multiData a (listRegs list).length) s) a
  obtain ⟨regs, flags, rest⟩ := ArmEffect.setReg same (lowReg rb) (a + bytesOf (listRegs list))
  have alike := RestAlike.of_sansRegs rest
  refine ⟨_, runs, fun j => (regs j).trans ?_, flags.trans (s.wroteWords_regs a _).2, rest, ?_, fun block wf => ⟨?_, ?_⟩⟩
  · simp only [withReg, State.wroteWords_reg]; rfl
  · have outside := s.wroteWords_outside ((listRegs list).map s.reg) a
    rw [List.length_map] at outside
    exact outside.congr alike.varMem alike.progMem
  · exact State.storedWords_wroteWords block wf alike.varMem
  · rw [State.sansVar_sansRegs]
    refine (congrArg State.sansVar rest).trans ?_
    rw [State.wroteWords_variable _ (by rwa [List.length_map])]
    rfl

/-- Settles O48: the list is the only ascending one, and each form writes its words. -/
theorem thumbBlockStores : Obligations.ThumbBlockStores := by
  intro s list regs a
  refine ⟨fun r asc ha => ?push, fun rb asc ha => ?stmia⟩
  case push =>
    have hregs := (ascending_pushRegs r list).unique asc
    exact ⟨fun empty => tPush_refused (hregs.trans empty) s, tPush_stores s hregs ha⟩
  case stmia =>
    obtain rfl := (ascending_listRegs list).unique asc
    refine ⟨fun empty => tStmia_empty empty rb s, fun listed below => ?_, fun hne lowest => ?_⟩
    · have ⟨j, hj, _⟩ := below
      exact tStmia_notLowest ((baseNotLowest_iff rb list).2 ⟨listed, below⟩) (List.ne_nil_of_mem hj) s
    · refine tStmia_stores s hne (Bool.eq_false_iff.2 fun notLowest => ?_) ha
      obtain ⟨listed, j, hj, below⟩ := (baseNotLowest_iff rb list).1 notLowest
      exact absurd below (Nat.not_lt.2 (lowest listed j hj))

end Sys2Proof.Machine
end

section
/-! PROOFS. POP and LDMIA (R490, R494, R592, R594). -/

namespace Sys2Proof.Machine

/-! ### Reads through the chain -/

/-- A read of the chain looks at no register. -/
theorem State.armRead_sansRegs (s : State) (a : Word) (n : Nat) :
    (s.armRead a n).1 = (s.sansRegs.armRead a n).1 ∧
      (s.armRead a n).2.sansRegs = (s.sansRegs.armRead a n).2.sansRegs := by
  have illegal : (s.armIllegal true a).sansRegs = (s.sansRegs.armIllegal true a).sansRegs := by
    rw [State.armIllegal_eq, State.armIllegal_eq]; rfl
  by_cases h : a.toNat % n = 0
  · cases hp : s.params.inProgram a n with
    | true =>
      rw [s.armRead_program a n h hp, s.sansRegs.armRead_program a n h hp]
      exact ⟨rfl, rfl⟩
    | false =>
      cases hv : s.params.inVariable a n with
      | true =>
        rw [s.armRead_variable a n h hp hv, s.sansRegs.armRead_variable a n h hp hv]
        exact ⟨rfl, rfl⟩
      | false =>
        cases hr : s.params.peripheral a with
        | none =>
          rw [s.armRead_unclaimed a n hp hv hr, s.sansRegs.armRead_unclaimed a n hp hv hr]
          exact ⟨rfl, illegal⟩
        | some r =>
          rw [s.armRead_peripheral a n h hp hv hr, s.sansRegs.armRead_peripheral a n h hp hv hr]
          cases r <;> exact ⟨rfl, rfl⟩
  · rw [s.armRead_misaligned a n h, s.sansRegs.armRead_misaligned a n h]
    exact ⟨rfl, illegal⟩

theorem State.armRead_alike {s t : State} (h : t.sansRegs = s.sansRegs) (a : Word) (n : Nat) :
    (t.armRead a n).1 = (s.armRead a n).1 ∧ (t.armRead a n).2.sansRegs = (s.armRead a n).2.sansRegs := by
  rw [(t.armRead_sansRegs a n).1, (t.armRead_sansRegs a n).2, h, ← (s.armRead_sansRegs a n).1,
    ← (s.armRead_sansRegs a n).2]
  exact ⟨rfl, rfl⟩

theorem State.armRead_reg (s : State) (a : Word) (n : Nat) (j : AnyReg) : (s.armRead a n).2.reg j = s.reg j := by
  unfold State.reg Arm.reg; simp only [(s.armRead_regs a n).1]

/-- One more word read. -/
theorem State.readWords_snoc (s : State) (a : Word) (n : Nat) : s.readWords a (n + 1) =
    ((s.readWords a n).1 ++ [((s.readWords a n).2.armRead (a + BitVec.ofNat 32 (4 * n)) 4).1],
      ((s.readWords a n).2.armRead (a + BitVec.ofNat 32 (4 * n)) 4).2) := by
  induction n generalizing s a with
  | zero =>
    have start : a + BitVec.ofNat 32 (4 * 0) = a := BitVec.add_zero a
    rw [start]; rfl
  | succ n ih =>
    rw [State.readWords, ih, word_succ]
    rfl

theorem State.readWords_length (s : State) (a : Word) (n : Nat) : (s.readWords a n).1.length = n := by
  induction n generalizing s a with
  | zero => rfl
  | succ n ih => rw [State.readWords, List.length_cons, ih]

/-- A block read within variable memory: its words, and nothing changes. -/
theorem State.readWords_variable {s : State} {a : Word} (n : Nat) (h : s.variableWords a n) :
    s.readWords a n = ((List.range n).map (fun k => BitVec.ofNat 32 (s.arm.varMem.readLE (a.toNat + 4 * k) 4)), s) := by
  induction n generalizing a with
  | zero => rfl
  | succ n ih =>
    obtain ⟨aligned, program, inside, next⟩ := State.variableWords_succ h
    rw [State.readWords, s.armRead_variable a 4 aligned program inside, List.range_succ_eq_map, List.map_cons, List.map_map]
    rcases Nat.eq_zero_or_pos n with rfl | pos
    · rfl
    · obtain ⟨step, block⟩ := next pos
      have index : ∀ k, a.toNat + 4 + 4 * k = a.toNat + 4 * (k + 1) := fun k => by omega
      rw [ih block, step]
      simp only [Function.comp_def, index]
      rfl

/-! ### Registers loaded -/

/-- What loading a list of registers does to a state alike to `s`: registers, flags, and the chain. -/
structure Loaded (s t u : State) (a : Word) (regs : List AnyReg) : Prop where
  kept : ∀ j, j ∉ regs → u.reg j = t.reg j
  values : regs.map u.reg = (s.readWords a regs.length).1
  flags : u.armFlags = t.armFlags
  rest : u.sansRegs = (s.readWords a regs.length).2.sansRegs

theorem State.loadRegs_loaded (regs : List AnyReg) (nodup : regs.Nodup) {s t : State} (h : t.sansRegs = s.sansRegs)
    (a : Word) : Loaded s t (t.loadRegs regs a) a regs := by
  induction regs generalizing s t a with
  | nil => exact ⟨fun _ _ => rfl, rfl, rfl, h⟩
  | cons r rest ih =>
    obtain ⟨fresh, nodupRest⟩ := List.nodup_cons.1 nodup
    obtain ⟨value, alike⟩ := State.armRead_alike h a 4
    obtain ⟨kept, values, flags, last⟩ := ih nodupRest (s := (s.armRead a 4).2)
      (t := (t.armRead a 4).2.mapArm (Arm.setReg r (t.armRead a 4).1)) alike (a + 4)
    have set : ∀ j, ((t.armRead a 4).2.mapArm (Arm.setReg r (t.armRead a 4).1)).reg j =
        if j = r then (t.armRead a 4).1 else t.reg j := fun j => by
      rw [← t.armRead_reg a 4 j]; exact Arm.reg_setReg _ _ _ _
    refine ⟨fun j hj => ?_, ?_, flags.trans (t.armRead_regs a 4).2, last⟩
    · rw [List.mem_cons, not_or] at hj
      rw [State.loadRegs, kept j hj.2, set, if_neg hj.1]
    · rw [List.map_cons, State.loadRegs, kept r fresh, values, set, if_pos rfl, value]
      rfl

theorem Loaded.charged {s t u : State} {a : Word} {regs : List AnyReg} (h : Loaded s t u a regs)
    (same : SameButCycles s t) : Loaded s s u a regs :=
  ⟨fun j hj => (h.kept j hj).trans (same.reg j), h.values, h.flags.trans same.flags, h.rest⟩

/-- Words read from variable memory stand in the registers. -/
theorem LoadedWords.of_values {s t : State} {a : Word} {regs : List AnyReg} {ws : List Word}
    (values : regs.map t.reg ++ ws = (List.range (regs.length + ws.length)).map
      (fun k => BitVec.ofNat 32 (s.arm.varMem.readLE (a.toNat + 4 * k) 4))) : LoadedWords s t a regs := by
  intro k hk
  have hk' : k < (regs.map t.reg).length := by rwa [List.length_map]
  have at_k := congrArg (fun l => l[k]?) values
  simp only [List.getElem?_append_left hk', List.getElem?_map, List.getElem?_eq_getElem hk,
    List.getElem?_range (show k < regs.length + ws.length by omega), Option.map_some, Option.some.injEq] at at_k
  exact at_k

theorem nodup_listRegs (list : Byte) : (listRegs list).Nodup :=
  (pairwise_listRegs list).imp fun hij e => by rw [e] at hij; exact Nat.lt_irrefl _ hij

theorem not_mem_listRegs {j : AnyReg} (h : 8 ≤ j.toNat) (list : Byte) : j ∉ listRegs list := fun hj =>
  absurd ((mem_listRegs list j).1 hj).1 (Nat.not_lt.2 h)

/-! ### POP -/

/-- The registers and SP of a POP. -/
theorem State.popRegs_loaded (list : Byte) (total : Nat) (s : State) :
    ∃ u, s.popRegs (listRegs list) total = u.mapArm (Arm.setReg 13 (s.reg 13 + BitVec.ofNat 32 (4 * total))) ∧
      Loaded s s u (s.reg 13) (listRegs list) :=
  ⟨_, rfl, (State.loadRegs_loaded (listRegs list) (nodup_listRegs list) (State.charge_same _ s).rest _).charged
    (State.charge_same _ s)⟩

/-- Registers other than 13 after SP is written. -/
theorem State.reg_setSp (u : State) (v : Word) (j : AnyReg) :
    (u.mapArm (Arm.setReg 13 v)).reg j = if j = 13 then v else u.reg j := Arm.reg_setReg 13 j v u.arm

theorem State.map_reg_setSp (u : State) (v : Word) (list : Byte) :
    (listRegs list).map (u.mapArm (Arm.setReg 13 v)).reg = (listRegs list).map u.reg :=
  List.map_congr_left fun j hj => (u.reg_setSp v j).trans
    (if_neg fun e => not_mem_listRegs (by decide) list (e ▸ hj))

theorem State.checkedSp_reg (s : State) (v : Word) (j : AnyReg) : (s.checkedSp v).reg j = s.reg j := by
  unfold State.reg Arm.reg; simp only [(s.checkedSp_regs v).1]

theorem tPop_empty {list : Byte} (h : listRegs list = []) (s : State) :
    exec (.tPop 0 list) s = .refused .emptyRegisterList := by
  show execTPop 0 list s = _
  simp only [execTPop, h, if_true]

/-- POP without PC, in the terms of the statement. -/
theorem tPop_loads {list : Byte} (s : State) {a : Word} (ha : a = s.reg 13) {n : Nat} (hn : n = (listRegs list).length)
    (hne : listRegs list ≠ []) : ∃ t, exec (.tPop 0 list) s = .next t ∧ t.reg 13 = a + BitVec.ofNat 32 (4 * n) ∧
      (∀ j, j ∉ listRegs list → j ≠ 13 → t.reg j = s.reg j) ∧ t.armFlags = s.armFlags ∧
      (listRegs list).map t.reg = (s.readWords a n).1 ∧
      t.sansRegs = ((s.readWords a n).2.checkedSp (a + BitVec.ofNat 32 (4 * n))).sansRegs ∧
      (s.variableWords a n → LoadedWords s t a (listRegs list) ∧
        t.sansRegs = (s.checkedSp (a + BitVec.ofNat 32 (4 * n))).sansRegs) := by
  subst ha hn
  obtain ⟨u, hu, loaded⟩ := s.popRegs_loaded list (listRegs list).length
  obtain ⟨v, hv⟩ : ∃ v, v = s.reg 13 + BitVec.ofNat 32 (4 * (listRegs list).length) := ⟨_, rfl⟩
  rw [← hv] at hu ⊢
  have runs : exec (.tPop 0 list) s = .next ((u.mapArm (Arm.setReg 13 v)).checkedSp v) := by
    show execTPop 0 list s = _
    simp only [execTPop, if_true, if_neg hne, hu, State.stackCheck_eq, State.reg_setSp]
  have values : (listRegs list).map ((u.mapArm (Arm.setReg 13 v)).checkedSp v).reg =
      (s.readWords (s.reg 13) (listRegs list).length).1 := by
    rw [← loaded.values, ← u.map_reg_setSp v list]
    exact List.map_congr_left fun j _ => State.checkedSp_reg _ v j
  have rest : ((u.mapArm (Arm.setReg 13 v)).checkedSp v).sansRegs =
      ((s.readWords (s.reg 13) (listRegs list).length).2.checkedSp v).sansRegs :=
    State.checkedSp_sansRegs (t := u.mapArm (Arm.setReg 13 v)) loaded.rest v
  refine ⟨_, runs, ?_, fun j hj hne => ?_, ?_, values, rest, fun block => ?_⟩
  · rw [State.checkedSp_reg, State.reg_setSp, if_pos rfl]
  · rw [State.checkedSp_reg, State.reg_setSp, if_neg hne, loaded.kept j hj]
  · exact (State.checkedSp_regs _ v).2.1.trans loaded.flags
  · rw [State.readWords_variable _ block] at values rest
    exact ⟨.of_values (ws := []) (by rw [List.append_nil]; exact values), rest⟩

/-- POP with PC, in the terms of the statement. -/
theorem tPop_jumps {list : Byte} (s : State) {a : Word} (ha : a = s.reg 13) {n : Nat} (hn : n = (listRegs list).length) :
    ∃ t, exec (.tPop 1 list) s = .next t ∧ t.reg 13 = a + BitVec.ofNat 32 (4 * (n + 1)) ∧
      (∀ j, j ∉ listRegs list → j ≠ 13 → j ≠ 15 → t.reg j = s.reg j) ∧ t.armFlags = s.armFlags ∧
      (∃ w, (s.readWords a (n + 1)).1 = (listRegs list).map t.reg ++ [w] ∧ t.reg 15 = w &&& 0xFFFFFFFE) ∧
      (∀ u : State, u = (s.readWords a (n + 1)).2.checkedSp (a + BitVec.ofNat 32 (4 * (n + 1))) →
        t.sansRegs = { u with arm := { u.arm with wrotePC := true } }.sansRegs) ∧
      (s.variableWords a (n + 1) → LoadedWords s t a (listRegs list) ∧
        t.reg 15 = BitVec.ofNat 32 (s.arm.varMem.readLE (a.toNat + 4 * n) 4) &&& 0xFFFFFFFE ∧
        ∀ u : State, u = s.checkedSp (a + BitVec.ofNat 32 (4 * (n + 1))) →
          t.sansRegs = { u with arm := { u.arm with wrotePC := true } }.sansRegs) := by
  subst ha hn
  obtain ⟨u, hu, loaded⟩ := s.popRegs_loaded list ((listRegs list).length + 1)
  obtain ⟨v, hv⟩ : ∃ v, v = s.reg 13 + BitVec.ofNat 32 (4 * ((listRegs list).length + 1)) := ⟨_, rfl⟩
  obtain ⟨a, ha⟩ : ∃ a, a = s.reg 13 + BitVec.ofNat 32 (4 * (listRegs list).length) := ⟨_, rfl⟩
  obtain ⟨x, hx⟩ : ∃ x, x = (u.mapArm (Arm.setReg 13 v)).armRead a 4 := ⟨_, rfl⟩
  obtain ⟨value, alike⟩ := State.armRead_alike
    (s := (s.readWords (s.reg 13) (listRegs list).length).2) (t := u.mapArm (Arm.setReg 13 v)) loaded.rest a 4
  have reads := s.readWords_snoc (s.reg 13) (listRegs list).length
  rw [← ha] at reads
  rw [← hx] at value alike
  rw [← hv] at hu ⊢
  have regs : ∀ j, x.2.reg j = if j = 13 then v else u.reg j := fun j => by
    rw [hx, State.armRead_reg, State.reg_setSp]
  have flags : x.2.armFlags = u.armFlags := by rw [hx]; exact (State.armRead_regs _ a 4).2
  obtain ⟨y, hy⟩ : ∃ y, y = (x.2.checkedSp v).charge
      [.fetch false (x.1 &&& 0xFFFFFFFE), .fetch true ((x.1 &&& 0xFFFFFFFE) + 2)] := ⟨_, rfl⟩
  have same : SameButCycles (x.2.checkedSp v) y := by rw [hy]; exact State.charge_same _ _
  have runs : exec (.tPop 1 list) s = .next (y.mapArm (Arm.writePC x.1)) := by
    show execTPop 1 list s = _
    simp only [execTPop, hu, bytesOf, ← ha, ← hx, State.stackCheck_eq, regs, if_true, hy]
    rfl
  have final : ∀ j, (y.mapArm (Arm.writePC x.1)).reg j =
      if j = 15 then x.1 &&& 0xFFFFFFFE else if j = 13 then v else u.reg j := fun j => by
    rw [← regs, ← State.checkedSp_reg x.2 v, ← same.reg]
    exact Arm.reg_setReg 15 j _ y.arm
  have low : ∀ j ∈ listRegs list, j ≠ 15 ∧ j ≠ 13 := fun j hj =>
    ⟨fun e => not_mem_listRegs (by decide) list (e ▸ hj), fun e => not_mem_listRegs (by decide) list (e ▸ hj)⟩
  have values : (listRegs list).map (y.mapArm (Arm.writePC x.1)).reg = (listRegs list).map u.reg :=
    List.map_congr_left fun j hj => by rw [final, if_neg (low j hj).1, if_neg (low j hj).2]
  have wrote : ∀ w : State, (w.mapArm (Arm.writePC x.1)).sansRegs =
      { w.sansRegs with arm := { w.sansRegs.arm with wrotePC := true } } := fun _ => rfl
  have rest : (y.mapArm (Arm.writePC x.1)).sansRegs =
      { (((s.readWords (s.reg 13) ((listRegs list).length + 1)).2.checkedSp v).sansRegs) with
        arm := { (((s.readWords (s.reg 13) ((listRegs list).length + 1)).2.checkedSp v).sansRegs).arm with
          wrotePC := true } } := by
    rw [wrote, same.rest, State.checkedSp_sansRegs alike v, reads]
  refine ⟨_, runs, ?_, fun j hj h13 h15 => ?_, ?_, ⟨x.1, ?_, ?_⟩, ?_, fun block => ?_⟩
  · rw [final, if_neg (by decide), if_pos rfl]
  · rw [final, if_neg h15, if_neg h13, loaded.kept j hj]
  · exact same.flags.trans ((State.checkedSp_regs _ v).2.1.trans (flags.trans loaded.flags))
  · rw [reads, values, loaded.values, value]
  · rw [final, if_pos rfl]
  · rintro w rfl
    exact rest
  · have all : (listRegs list).map (y.mapArm (Arm.writePC x.1)).reg ++ [x.1] =
        (s.readWords (s.reg 13) ((listRegs list).length + 1)).1 := by rw [reads, values, loaded.values, value]
    rw [State.readWords_variable _ block] at all rest
    refine ⟨.of_values all, ?_, ?_⟩
    · have last := all
      rw [List.range_succ, List.map_append] at last
      have popped := (List.append_inj' last rfl).2
      rw [List.map_singleton, List.singleton_inj] at popped
      rw [final, if_pos rfl, popped]
    · rintro w rfl
      exact rest

/-! ### LDMIA -/

theorem tLdmia_empty {list : Byte} (h : listRegs list = []) (rb : LowReg) (s : State) :
    exec (.tLdmia rb list) s = .refused .emptyRegisterList := by
  show execTLdmia rb list s = _
  simp only [execTLdmia, h, if_true]

/-- LDMIA in the terms of the statement. -/
theorem tLdmia_loads {rb : LowReg} {list : Byte} (s : State) {a : Word} (ha : a = s.low rb) (hne : listRegs list ≠ []) :
    ∃ t, exec (.tLdmia rb list) s = .next t ∧
      (∀ j, j ∉ listRegs list → j ≠ lowReg rb → t.reg j = s.reg j) ∧ t.armFlags = s.armFlags ∧
      (¬inList list (lowReg rb) → t.low rb = a + BitVec.ofNat 32 (4 * (listRegs list).length)) ∧
      (listRegs list).map t.reg = (s.readWords a (listRegs list).length).1 ∧
      t.sansRegs = (s.readWords a (listRegs list).length).2.sansRegs ∧
      (s.variableWords a (listRegs list).length → LoadedWords s t a (listRegs list) ∧ t.sansRegs = s.sansRegs) := by
  obtain ⟨u, hu, loaded⟩ : ∃ u, u = (s.charge (.fetch true s.arm.executingPC ::
      multiData a (listRegs list).length ++ [.internal])).loadRegs (listRegs list) a ∧
      Loaded s s u a (listRegs list) :=
    ⟨_, rfl, (State.loadRegs_loaded (listRegs list) (nodup_listRegs list) (State.charge_same _ s).rest _).charged
      (State.charge_same _ s)⟩
  obtain ⟨t, ht⟩ : ∃ t, t = if list.getLsbD rb.toNat then u else u.setLow rb (a + bytesOf (listRegs list)) := ⟨_, rfl⟩
  have runs : exec (.tLdmia rb list) s = .next t := by
    show execTLdmia rb list s = _
    simp only [execTLdmia, if_neg hne, ← ha, ← hu, ht]
  have regs : ∀ j, t.reg j =
      if list.getLsbD rb.toNat = false ∧ j = lowReg rb then a + bytesOf (listRegs list) else u.reg j := fun j => by
    rw [ht]
    cases list.getLsbD rb.toNat with
    | true => rfl
    | false =>
      rw [if_neg Bool.false_ne_true, State.reg_setLow]
      simp only [withReg, true_and]
  have values : (listRegs list).map t.reg = (s.readWords a (listRegs list).length).1 := by
    rw [← loaded.values]
    refine List.map_congr_left fun j hj => (regs j).trans (if_neg ?_)
    rintro ⟨unlisted, rfl⟩
    exact Bool.false_ne_true (unlisted.symm.trans ((inList_lowReg list rb).1 ((mem_listRegs list _).1 hj)))
  have rest : t.sansRegs = (s.readWords a (listRegs list).length).2.sansRegs := by
    rw [ht, ← loaded.rest]
    split <;> rfl
  refine ⟨t, runs, fun j hj hne => ?_, ?_, fun unlisted => ?_, values, rest, fun block => ?_⟩
  · rw [regs, if_neg fun h => hne h.2, loaded.kept j hj]
  · rw [ht, ← loaded.flags]
    split <;> rfl
  · exact (regs (lowReg rb)).trans (if_pos ⟨Bool.eq_false_iff.2 fun h => unlisted ((inList_lowReg list rb).2 h), rfl⟩)
  · rw [State.readWords_variable _ block] at values rest
    exact ⟨.of_values (ws := []) (by rw [List.append_nil]; exact values), rest⟩

/-- Settles O49: the list is the only ascending one, and each form loads what the chain reads. -/
theorem thumbBlockLoads : Obligations.ThumbBlockLoads := by
  intro s list regs asc
  obtain rfl := (ascending_listRegs list).unique asc
  exact ⟨fun a n ha hn => ⟨fun empty => tPop_empty empty s, tPop_loads s ha hn, tPop_jumps s ha hn⟩,
    fun rb a ha => ⟨fun empty => tLdmia_empty empty rb s, tLdmia_loads s ha⟩⟩

end Sys2Proof.Machine
end

section
/-! PROOFS. The TIA's scheduler, its register writes and the sprites' clock (R406 to R410, R419 to R432, R437 to R441). -/

namespace Sys2Proof.Machine

/-! ### The scheduler -/

theorem Tia.schedule_at_once (g : Group) (pl : Payload) (t : Tia) : Tia.schedule g 0 pl t = .ok (t.applyPayload pl) :=
  if_pos rfl

theorem Tia.schedule_full {t : Tia} {n : Nat} (hn : 0 < n) (full : 64 ≤ t.liveEvents) (g : Group) (pl : Payload) :
    Tia.schedule g n pl t = .error (.fault .schedulerFull) := by
  rw [Tia.schedule, if_neg (Nat.ne_of_gt hn), if_neg (show ¬t.liveEvents < schedCapacity from Nat.not_lt.2 full)]

theorem Tia.schedule_joins {t : Tia} {n : Nat} (hn : 0 < n) (room : t.liveEvents < 64) (g : Group) (pl : Payload) :
    Tia.schedule g n pl t = .ok (t.setEvents g (t.eventsOf g ++ [⟨n, pl⟩])) := by
  rw [Tia.schedule, if_neg (Nat.ne_of_gt hn), if_pos (show t.liveEvents < schedCapacity from room)]

/-- One countdown, then `k` more. -/
theorem countDown_countDown (k : Nat) (es : List Event) :
    ((countDown es).filter (fun e => k < e.remaining)).map (fun e => { e with remaining := e.remaining - k }) =
      (es.filter (fun e => k + 1 < e.remaining)).map (fun e => { e with remaining := e.remaining - (k + 1) }) := by
  induction es with
  | nil => rfl
  | cons e es ih =>
    by_cases live : 1 < e.remaining
    · have head : countDown (e :: es) = { e with remaining := e.remaining - 1 } :: countDown es := by
        simp only [countDown, List.filter_cons, live, decide_true, if_true, List.map_cons]
      have same : k < e.remaining - 1 ↔ k + 1 < e.remaining := by omega
      rw [head]
      simp only [List.filter_cons, same, decide_eq_true_eq]
      split
      · rw [List.map_cons, List.map_cons, ih, Nat.sub_sub, Nat.add_comm 1 k]
      · exact ih
    · have head : countDown (e :: es) = countDown es := by
        simp only [countDown, List.filter_cons, live, decide_false, Bool.false_eq_true, if_false]
      have gone : ¬k + 1 < e.remaining := by omega
      rw [head, ih]
      simp only [List.filter_cons, gone, decide_false, Bool.false_eq_true, if_false]

theorem countDown_live (es : List Event) : ∀ e ∈ countDown es, 1 ≤ e.remaining := by
  intro e he
  obtain ⟨e', he', rfl⟩ := List.mem_map.1 he
  have := of_decide_eq_true (List.mem_filter.1 he').2
  show 1 ≤ e'.remaining - 1
  omega

/-- The live events after `k` ticks (R407, R408). -/
theorem Tia.eventsOf_ticks (p : Params) (k : Nat) {t : Tia} (live : ∀ h, ∀ e ∈ t.eventsOf h, 1 ≤ e.remaining) (h : Group) :
    (t.ticks p k).eventsOf h =
      ((t.eventsOf h).filter (fun e => k < e.remaining)).map (fun e => { e with remaining := e.remaining - k }) := by
  induction k generalizing t with
  | zero =>
    have all : (t.eventsOf h).filter (fun e => 0 < e.remaining) = t.eventsOf h :=
      List.filter_eq_self.2 fun e he => decide_eq_true (live h e he)
    rw [all, Tia.ticks_zero]
    exact (List.map_id _).symm
  | succ k ih =>
    rw [Tia.ticks, ih fun g => by rw [Tia.eventsOf_tick]; exact countDown_live _, Tia.eventsOf_tick, countDown_countDown]

theorem Tia.setEvents_self (t : Tia) (g : Group) : t.setEvents g (t.eventsOf g) = t := by
  rcases g with _ | s | _
  · rfl
  · cases s <;> rfl
  · rfl

/-- A group without events does nothing. -/
theorem Tia.tickGroup_empty {t : Tia} {g : Group} (h : t.eventsOf g = []) : t.tickGroup g = t := by
  conv_rhs => rw [← t.setEvents_self g]
  unfold Tia.tickGroup
  rw [h]
  rfl

theorem Tia.foldl_tickGroup_empty (gs : List Group) {t : Tia} (h : ∀ g, t.eventsOf g = []) :
    gs.foldl Tia.tickGroup t = t := by
  induction gs with
  | nil => rfl
  | cons g gs ih => rw [List.foldl_cons, Tia.tickGroup_empty (h g), ih]

/-- A lone event with one clock left fires when its group's turn comes. -/
theorem Tia.foldl_tickGroup_lone {gs : List Group} {t : Tia} {g : Group} {pl : Payload} (mem : g ∈ gs)
    (lone : t.eventsOf g = [⟨1, pl⟩]) (others : ∀ h, h ≠ g → t.eventsOf h = []) :
    gs.foldl Tia.tickGroup t = (t.setEvents g []).applyPayload pl := by
  induction gs with
  | nil => exact absurd mem List.not_mem_nil
  | cons h gs ih =>
    rw [List.foldl_cons]
    rcases eq_or_ne h g with rfl | ne
    · have fires : t.tickGroup h = (t.setEvents h []).applyPayload pl := by
        unfold Tia.tickGroup
        rw [lone]
        rfl
      rw [fires]
      refine Tia.foldl_tickGroup_empty gs fun k => ?_
      rw [Tia.sameEvents_applyPayload, Tia.eventsOf_setEvents]
      split
      · rfl
      · exact others k ‹_›
    · rw [Tia.tickGroup_empty (others h ne)]
      exact ih (List.mem_of_ne_of_mem ne.symm mem)

theorem mem_groupOrder (g : Group) : g ∈ groupOrder := by
  rcases g with _ | s | _
  · decide
  · cases s <;> decide
  · decide

/-- Settles O34: `schedule` by the delay, and `tickAll()` group by group. -/
theorem scheduler : Obligations.Scheduler := fun p t g pl =>
  ⟨t.schedule_at_once g pl, fun _ hn full => Tia.schedule_full hn full g pl,
    fun _ hn room => ⟨_, Tia.schedule_joins hn room g pl, fun h => t.eventsOf_setEvents g h _⟩,
    fun live k h => Tia.eventsOf_ticks p k live h, Tia.foldl_tickGroup_lone (mem_groupOrder g)⟩

/-! ### The position strobes -/

/-- The TIA whose pixels a strobe has set (R429). -/
def Tia.strobed (p : Params) (s : SpriteId) (t : Tia) : Tia :=
  t.setSprite s { t.sprite s with resetPixel := t.resetPixelAt p s, hmovedPixel := t.resetPixelAt p s }

theorem Tia.strobeReset_eq {p : Params} (h : p.lateRespxHeat = false) (s : SpriteId) (t : Tia) :
    t.strobeReset p s = Tia.schedule (.sprite s) (t.resetDelay p) (.resetPos s) (t.strobed p s) := by
  unfold Tia.strobeReset Tia.strobed
  rw [h]
  cases s <;> rfl

theorem Tia.sameEvents_strobed (p : Params) (s : SpriteId) (t : Tia) : t.SameEvents (t.strobed p s) :=
  Tia.sameEvents_setSprite _ _ _ rfl

theorem Tia.sprite_strobed (p : Params) (s : SpriteId) (t : Tia) : (t.strobed p s).sprite s =
    { t.sprite s with resetPixel := t.resetPixelAt p s, hmovedPixel := t.resetPixelAt p s } := by
  rw [Tia.strobed, Tia.sprite_setSprite, if_pos rfl]

theorem Tia.sprite_setEvents (t : Tia) (s : SpriteId) (es : List Event) :
    (t.setEvents (.sprite s) es).sprite s = { t.sprite s with events := es } := by
  rw [Tia.setEvents, Tia.sprite_setSprite, if_pos rfl]

/-- A strobe, by its delay: the reset at once, or an event that resets. -/
theorem Tia.strobeReset_ok {p : Params} (h : p.lateRespxHeat = false) {t : Tia} (room : t.liveEvents < 64) (s : SpriteId)
    {d : Nat} (hd : d = t.resetDelay p) {px : Nat} (hpx : px = t.resetPixelAt p s) : ∃ u, t.strobeReset p s = .ok u ∧
      (u.sprite s).resetPixel = px ∧ (u.sprite s).hmovedPixel = (u.sprite s).resetPixel ∧
      (u.sprite s).phase = (t.sprite s).phase ∧ (u.sprite s).scan = (t.sprite s).scan ∧
      (d = 0 → (u.sprite s).ctr = ⟨0, .risingPhi1⟩) ∧
      (0 < d → (u.sprite s).ctr = (t.sprite s).ctr ∧
        u.eventsOf (.sprite s) = t.eventsOf (.sprite s) ++ [⟨d, .resetPos s⟩]) := by
  rw [Tia.strobeReset_eq h, hpx, ← hd]
  rcases Nat.eq_zero_or_pos d with zero | pos
  · rw [zero, Tia.schedule_at_once]
    refine ⟨_, rfl, ?_⟩
    have sprite : ((t.strobed p s).applyPayload (.resetPos s)).sprite s =
        { (t.strobed p s).sprite s with ctr := Counter.zero } := by
      rw [Tia.applyPayload, Tia.sprite_setSprite, if_pos rfl]
    rw [sprite, Tia.sprite_strobed]
    exact ⟨rfl, rfl, rfl, rfl, fun _ => rfl, fun h => absurd h (Nat.lt_irrefl 0)⟩
  · have events := Tia.sameEvents_strobed p s t
    rw [Tia.schedule_joins pos (events.liveEvents ▸ room)]
    refine ⟨_, rfl, ?_⟩
    rw [Tia.sprite_setEvents, Tia.sprite_strobed, Tia.eventsOf_setEvents, if_pos rfl, events]
    exact ⟨rfl, rfl, rfl, rfl, fun h => absurd h (Nat.ne_of_gt pos), fun _ => ⟨rfl, rfl⟩⟩

/-- 92 is minus 68 modulo 160 (R429). -/
theorem Tia.resetPixelAt_eq (p : Params) (t : Tia) (s : SpriteId) : ((t.resetPixelAt p s : Nat) : Int) =
    ((t.hclk : Int) - (if t.hblank then 0 else 68) + t.resetDelay p + t.adjOf s) % 160 := by
  unfold Tia.resetPixelAt clksVisible clksHblank
  split <;> omega

/-- Settles O35: the five strobes are one form, by its sprite. -/
theorem positionStrobes : Obligations.PositionStrobes := by
  refine ⟨rfl, fun p t v h room r hr d adj hd hadj => ?_⟩
  have delay : d = t.resetDelay p := by rw [hd, Tia.resetDelay, h]; rfl
  have extra : adj = t.adjOf r.2 ∧ t.write p r.1 v = t.strobeReset p r.2 := by
    rw [hadj]
    clear hadj
    revert r
    repeat refine List.forall_mem_cons.2 ⟨⟨by simp [Tia.adjOf, Machine.adj], rfl⟩, ?_⟩
    exact List.forall_mem_nil _
  obtain ⟨u, hu, pixel, rest⟩ := Tia.strobeReset_ok h room r.2 delay rfl
  refine ⟨u, extra.2.trans hu, ?_, rest⟩
  rw [pixel, Tia.resetPixelAt_eq, delay, extra.1]

/-! ### Writes that act at once -/

theorem Tia.delayOf_default {p : Params} (h : p.delays = {}) (t : Tia) (r : TiaReg) : t.delayOf p r = 0 := by
  unfold Tia.delayOf
  rw [h]
  split <;> (try split) <;> rfl

theorem Tia.write_default {p : Params} (h : p.delays = {}) (t : Tia) (v : Byte) {n : BitVec 6} {r : TiaReg}
    (hn : tiaRegs[n.toNat]? = some r) (hr : r.resets = none) : t.write p n v = .ok (t.applyRegister r v) := by
  have reads : t.write p n v = t.writeReg p r v := by rw [Tia.write, hn]
  rw [reads, Tia.writeReg, hr, Tia.delayOf_default h]
  exact Tia.schedule_at_once _ _ _

/-- The model's NUSIZ is R430's. -/
theorem Player.withNusiz_eq (k : Player) (v : Byte) : k.withNusiz (v.extractLsb' 0 3) = playerNusiz v k := rfl

theorem Tia.write_unnamed (p : Params) (t : Tia) (v : Byte) {n : BitVec 6} (h : 0x2D ≤ n.toNat) : t.write p n v = .ok t := by
  have none : tiaRegs[n.toNat]? = none := List.getElem?_eq_none h
  rw [Tia.write, none]

/-- Settles O37: with every delay 0 each write is its register's effect. -/
theorem writeRegisters : Obligations.WriteRegisters := by
  intro p t v h
  have acts {n : BitVec 6} (r : TiaReg) (hn : tiaRegs[n.toNat]? = some r) (hr : r.resets = none) :
      t.write p n v = .ok (t.applyRegister r v) := Tia.write_default h t v hn hr
  refine ⟨(acts .vsync rfl rfl).trans ?vsync, acts .vblank rfl rfl, acts .wsync rfl rfl, acts .rsync rfl rfl,
    acts .nusiz0 rfl rfl, acts .nusiz1 rfl rfl, acts .colup0 rfl rfl, acts .colup1 rfl rfl,
    acts .colupf rfl rfl, acts .colubk rfl rfl, acts .ctrlpf rfl rfl, acts .refp0 rfl rfl,
    acts .refp1 rfl rfl, acts .pf0 rfl rfl, acts .pf1 rfl rfl, acts .pf2 rfl rfl, acts .audc0 rfl rfl,
    acts .audc1 rfl rfl, acts .audf0 rfl rfl, acts .audf1 rfl rfl, acts .audv0 rfl rfl, acts .audv1 rfl rfl,
    acts .grp0 rfl rfl, acts .grp1 rfl rfl, acts .enam0 rfl rfl, acts .enam1 rfl rfl, acts .enabl rfl rfl,
    acts .hmp0 rfl rfl, acts .hmp1 rfl rfl, acts .hmm0 rfl rfl, acts .hmm1 rfl rfl, acts .hmbl rfl rfl,
    acts .vdelp0 rfl rfl, acts .vdelp1 rfl rfl, acts .vdelbl rfl rfl, acts .resmp0 rfl rfl,
    acts .resmp1 rfl rfl, acts .hmove rfl rfl, acts .hmclr rfl rfl, acts .cxclr rfl rfl,
    fun _ => Tia.write_unnamed p t v⟩
  simp only [Tia.applyRegister, Bool.and_eq_true, Bool.not_eq_true']

/-! ### One motion clock of a sprite -/

theorem startCopy_eq (copies : Option (BitVec 3)) (v : Nat) : startCopy copies v =
    if v = 39 then some 0
    else if v = 3 ∧ (copies = some 1 ∨ copies = some 3) then some 1
    else if v = 7 ∧ (copies = some 2 ∨ copies = some 6) then some 1
    else if v = 7 ∧ copies = some 3 then some 2
    else if v = 15 ∧ copies = some 4 then some 1
    else if v = 15 ∧ copies = some 6 then some 2
    else none := by
  cases copies with
  | none => simp [startCopy]
  | some k => simp only [startCopy, Option.some.injEq]

/-- The position counter's clock (R403). -/
theorem Counter.tick_eq (len : Nat) (k : Counter) : k.tick len =
    if k.pclk = .fallingPhi2 then ⟨(k.count + 1) % len, .risingPhi1⟩ else ⟨k.count, k.pclk.tick⟩ := by
  unfold Counter.tick
  cases k.pclk <;> rfl

/-- A copy starts only where the counter's count changes (R422, R423). -/
theorem Sprite.startOf_tick (sh : SpriteShape) (k : Counter) : Sprite.startOf sh (k.tick spriteLen) =
    if k.pclk = .fallingPhi2 then startCopy sh.copies ((k.count + 1) % 40) else none := by
  unfold Sprite.startOf Counter.tick
  cases k.pclk <;> rfl

/-- The counter's part, with a start delay above 0. -/
theorem Sprite.advanceCounter_eq {sh : SpriteShape} (h : 0 < sh.startDelay) (k : Sprite) {start : Option Nat}
    (hs : Sprite.startOf sh (k.ctr.tick spriteLen) = start) : k.advanceCounter sh =
      { k with
        ctr := k.ctr.tick spriteLen
        phase := if start.isSome then .latching sh.startDelay else k.phase
        scan := { k.scan with copy := start.getD k.scan.copy } } := by
  unfold Sprite.advanceCounter
  dsimp only
  rw [hs]
  cases start with
  | none => rfl
  | some c => exact if_neg (Nat.ne_of_gt h)

/-- The phase machine's part (R422): the phase, the counts within the draw, and nothing else. -/
theorem Sprite.advancePhase_eq (sh : SpriteShape) (k : Sprite) : ∃ ph bit sub,
    k.advancePhase sh = { k with phase := ph, scan := { k.scan with bit := bit, sub := sub } } ∧
    (ph = match k.phase with
      | .idle => .idle
      | .latching n => if n ≤ 1 then .active else .latching (n - 1)
      | .active => if k.scan.sub + 1 = sh.width ∧ k.scan.bit + 1 = sh.nbits then .idle else .active) ∧
    ((bit, sub) = match k.phase with
      | .idle => (k.scan.bit, k.scan.sub)
      | .latching n => if n ≤ 1 then (0, 0) else (k.scan.bit, k.scan.sub)
      | .active => if k.scan.sub + 1 = sh.width then (k.scan.bit + 1, 0) else (k.scan.bit, k.scan.sub + 1)) := by
  obtain ⟨ctr, hm, moreHmove, resetPixel, hmovedPixel, phase, scan, events⟩ := k
  unfold Sprite.advancePhase
  cases phase with
  | idle => exact ⟨_, _, _, rfl, rfl, rfl⟩
  | latching n =>
    by_cases h : n ≤ 1
    · simp only [if_pos h]
      exact ⟨_, _, _, rfl, rfl, rfl⟩
    · simp only [if_neg h]
      exact ⟨_, _, _, rfl, rfl, rfl⟩
  | active =>
    by_cases h : scan.sub + 1 = sh.width
    · simp only [h, true_and]
      exact ⟨_, _, _, rfl, rfl, rfl⟩
    · simp only [h, false_and, if_false]
      exact ⟨_, _, _, rfl, rfl, rfl⟩

/-- Settles O39: the phase machine, then the counter with the copy that starts. -/
theorem spriteClock : Obligations.SpriteClock := by
  refine ⟨startCopy_eq, fun sh k delay start hstart => ?_⟩
  obtain ⟨ph, bit, sub, moved, phase, scan⟩ := k.advancePhase_eq sh
  have starts : Sprite.startOf sh ((k.advancePhase sh).ctr.tick spriteLen) = start := by
    rw [moved, hstart]; exact Sprite.startOf_tick sh k.ctr
  have tick := Sprite.advanceCounter_eq delay (k.advancePhase sh) starts
  rw [Sprite.tick, tick, moved]
  refine ⟨Counter.tick_eq 40 k.ctr, ?_, ?_, scan, rfl, rfl, rfl, rfl, rfl⟩
  · rintro c rfl
    exact ⟨rfl, rfl⟩
  · rintro rfl
    exact ⟨rfl, phase⟩

end Sys2Proof.Machine
end

section
/-! PROOFS. The HMOVE ripple, and a visible clock of the TIA (R416, R421 to R427, R433, R442 to R444). -/

namespace Sys2Proof.Machine

/-! ### One motion clock of one sprite of the TIA -/

theorem Sprite.tick_ctr (sh : SpriteShape) (k : Sprite) : (k.tick sh).ctr = k.ctr.tick spriteLen := by
  obtain ⟨_, _, _, moved, _⟩ := k.advancePhase_eq sh
  have kept : (k.advancePhase sh).ctr = k.ctr := by rw [moved]
  rw [Sprite.tick, ← kept, Sprite.advanceCounter]
  dsimp only
  split
  · rfl
  · split <;> rfl

/-- Whether the position of a sprite is locked to its player (R426). -/
def Tia.locked (t : Tia) : SpriteId → Bool
  | .m0 => t.m0.resetToPlayer
  | .m1 => t.m1.resetToPlayer
  | _ => false

theorem Tia.locked_setSprite (t : Tia) (s s' : SpriteId) (k : Sprite) : (t.setSprite s k).locked s' = t.locked s' := by
  cases s <;> cases s' <;> rfl

theorem Tia.lockMissile_self (t : Tia) (s : SpriteId) : (t.lockMissile s).sprite s = t.sprite s := by
  cases s <;> simp only [Tia.lockMissile] <;> (try split) <;> rfl

theorem Tia.lockMissile_unlocked {t : Tia} {s' : SpriteId} (h : t.locked s' = false) (s : SpriteId) :
    (t.lockMissile s).sprite s' = t.sprite s' := by
  have reset : ∀ m k, t.locked m = true → (t.setSprite m k).sprite s' = t.sprite s' := fun m k hm => by
    rw [Tia.sprite_setSprite, if_neg]
    rintro rfl
    exact Bool.false_ne_true (h.symm.trans hm)
  cases s <;> simp only [Tia.lockMissile]
  · split
    · exact reset .m0 _ ‹_›
    · rfl
  · split
    · exact reset .m1 _ ‹_›
    · rfl

theorem Tia.locked_lockMissile (t : Tia) (s s' : SpriteId) : (t.lockMissile s).locked s' = t.locked s' := by
  cases s <;> simp only [Tia.lockMissile] <;> (try split) <;> rfl

/-- A sprite's own motion clock. -/
theorem Tia.tickSprite_self (p : Params) (s : SpriteId) (t : Tia) :
    (t.tickSprite p s).sprite s = (t.sprite s).tick (t.shape p s) := by
  have set : (t.setSprite s ((t.sprite s).tick (t.shape p s))).sprite s = (t.sprite s).tick (t.shape p s) := by
    rw [Tia.sprite_setSprite, if_pos rfl]
  unfold Tia.tickSprite
  dsimp only
  split
  · rw [Tia.lockMissile_self, set]
  · exact set

/-- The motion clock of another sprite. -/
theorem Tia.tickSprite_other (p : Params) {s s' : SpriteId} (ne : s' ≠ s) {t : Tia} (h : t.locked s' = false) :
    (t.tickSprite p s).sprite s' = t.sprite s' := by
  have set : (t.setSprite s ((t.sprite s).tick (t.shape p s))).sprite s' = t.sprite s' := by
    rw [Tia.sprite_setSprite, if_neg ne]
  unfold Tia.tickSprite
  dsimp only
  split
  · rw [Tia.lockMissile_unlocked ((Tia.locked_setSprite _ _ _ _).trans h), set]
  · exact set

theorem Tia.locked_tickSprite (p : Params) (s s' : SpriteId) (t : Tia) : (t.tickSprite p s).locked s' = t.locked s' := by
  unfold Tia.tickSprite
  dsimp only
  split
  · rw [Tia.locked_lockMissile, Tia.locked_setSprite]
  · exact Tia.locked_setSprite _ _ _ _

/-! ### The ripple -/

/-- What the ripple reads of a sprite is alike, and its position too while it is not locked. -/
structure SameRipple (t u : Tia) (s : SpriteId) : Prop where
  motion : SameMotion t u s
  ctr : t.locked s = false → (u.sprite s).ctr = (t.sprite s).ctr
  locked : u.locked s = t.locked s
  hblank : u.hblank = t.hblank

theorem SameRipple.refl (t : Tia) (s : SpriteId) : SameRipple t t s := ⟨⟨rfl, rfl, rfl⟩, fun _ => rfl, rfl, rfl⟩

theorem SameRipple.trans {t u v : Tia} {s : SpriteId} (h : SameRipple t u s) (k : SameRipple u v s) : SameRipple t v s :=
  ⟨⟨k.motion.1.trans h.motion.1, k.motion.2.1.trans h.motion.2.1, k.motion.2.2.trans h.motion.2.2⟩,
    fun free => (k.ctr (h.locked.trans free)).trans (h.ctr free), k.locked.trans h.locked, k.hblank.trans h.hblank⟩

theorem Tia.sameRipple_setSprite {s s' : SpriteId} (ne : s' ≠ s) (t : Tia) (k : Sprite) :
    SameRipple t (t.setSprite s k) s' := by
  have same : (t.setSprite s k).sprite s' = t.sprite s' := by rw [Tia.sprite_setSprite, if_neg ne]
  refine ⟨?_, fun _ => by rw [same], Tia.locked_setSprite _ _ _ _, (Tia.sameLine_setSprite _ _ _).hblank⟩
  unfold SameMotion
  rw [same]
  exact ⟨rfl, rfl, rfl⟩

theorem Tia.sameRipple_tickSprite (p : Params) {s s' : SpriteId} (ne : s' ≠ s) (t : Tia) :
    SameRipple t (t.tickSprite p s) s' :=
  ⟨Tia.tickSprite_sameMotion p s s' t, fun free => by rw [Tia.tickSprite_other p ne free], Tia.locked_tickSprite _ _ _ _,
    (Tia.sameLine_tickSprite p t s).hblank⟩

/-- One sprite's part of the ripple, seen from another sprite. -/
theorem Tia.rippleSprite_other (p : Params) (ct : Nat) {s s' : SpriteId} (ne : s' ≠ s) (t : Tia) :
    SameRipple t (t.rippleSprite p ct s) s' := by
  unfold Tia.rippleSprite
  dsimp only
  split
  · exact ((Tia.sameRipple_setSprite ne _ _).trans (Tia.sameRipple_tickSprite p ne _)).trans
      (Tia.sameRipple_setSprite ne _ _)
  · exact Tia.sameRipple_setSprite ne _ _

/-- What a ripple step with the counter at `ct` does to a sprite inside the blank (R433). -/
structure Rippled (ct : Nat) (t u : Tia) (s : SpriteId) (go : Bool) : Prop where
  moreHmove : (u.sprite s).moreHmove = go
  pixel : (u.sprite s).hmovedPixel =
    if go then ((t.sprite s).hmovedPixel + 159) % 160 else (t.sprite s).hmovedPixel
  ctr : t.locked s = false →
    (u.sprite s).ctr = if go then (t.sprite s).ctr.tick 40 else (t.sprite s).ctr

/-- Whether a sprite still moves with the counter at `ct` (R433). -/
def Tia.goes (t : Tia) (ct : Nat) (s : SpriteId) : Bool :=
  (t.sprite s).moreHmove && ((t.sprite s).hm ^^^ 7).toNat != ct

theorem Tia.rippleSprite_self (p : Params) (ct : Nat) (s : SpriteId) {t : Tia} (blank : t.hblank = true) :
    Rippled ct t (t.rippleSprite p ct s) s (t.goes ct s) := by
  obtain ⟨w, hw⟩ : ∃ w, w = t.setSprite s { t.sprite s with moreHmove := t.goes ct s } := ⟨_, rfl⟩
  have sprite : w.sprite s = { t.sprite s with moreHmove := t.goes ct s } := by
    rw [hw, Tia.sprite_setSprite, if_pos rfl]
  have hblank : w.hblank = true := by rw [hw, (Tia.sameLine_setSprite _ _ _).hblank, blank]
  have step : t.rippleSprite p ct s =
      if (t.goes ct s && w.hblank) = true then (w.tickSprite p s).moveHmoved 159 s else w := by rw [hw]; rfl
  rw [step, hblank, Bool.and_true]
  cases hgo : t.goes ct s with
  | false =>
    rw [hgo] at sprite
    simp only [Bool.false_eq_true, if_false]
    constructor <;> simp [sprite]
  | true =>
    rw [hgo] at sprite
    obtain ⟨moved, more, -⟩ := Sprite.tick_motion (w.shape p s) (w.sprite s)
    have ticked := Tia.tickSprite_self p s w
    simp only [if_true]
    constructor
    · rw [Tia.sprite_moveHmoved, if_pos rfl, ticked]
      exact more.trans (by rw [sprite])
    · rw [Tia.sprite_moveHmoved, if_pos rfl, ticked]
      have kept := moved.trans (congrArg Sprite.hmovedPixel sprite)
      exact congrArg (fun x => (x + 159) % 160) kept
    · intro _
      rw [Tia.sprite_moveHmoved, if_pos rfl, ticked]
      simp only [Sprite.tick_ctr, sprite, if_true]
      rfl

theorem Tia.goes_of_same {t u : Tia} {s : SpriteId} (h : SameRipple t u s) (ct : Nat) : u.goes ct s = t.goes ct s := by
  unfold Tia.goes
  rw [h.motion.2.1, h.motion.2.2]

theorem Tia.foldl_rippleSprite_other (p : Params) (ct : Nat) {s : SpriteId} {l : List SpriteId} (h : s ∉ l) (t : Tia) :
    SameRipple t (l.foldl (Tia.rippleSprite p ct) t) s := by
  induction l generalizing t with
  | nil => exact .refl t s
  | cons a l ih =>
    rw [List.mem_cons, not_or] at h
    exact (Tia.rippleSprite_other p ct h.1 t).trans (ih h.2 _)

/-- Each sprite's part of the ripple is its own. -/
theorem Tia.foldl_rippleSprite (p : Params) (ct : Nat) {s : SpriteId} {l : List SpriteId} (nodup : l.Nodup) (h : s ∈ l)
    {t : Tia} (blank : t.hblank = true) : Rippled ct t (l.foldl (Tia.rippleSprite p ct) t) s (t.goes ct s) := by
  induction l generalizing t with
  | nil => exact absurd h List.not_mem_nil
  | cons a l ih =>
    obtain ⟨fresh, nodup⟩ := List.nodup_cons.1 nodup
    rw [List.foldl_cons]
    rcases eq_or_ne s a with rfl | ne
    · have first := Tia.rippleSprite_self p ct s blank
      have rest := Tia.foldl_rippleSprite_other p ct fresh (t.rippleSprite p ct s)
      have locked : (t.rippleSprite p ct s).locked s = t.locked s := by
        unfold Tia.rippleSprite
        dsimp only
        split
        · rw [Tia.moveHmoved, Tia.locked_setSprite, Tia.locked_tickSprite, Tia.locked_setSprite]
        · exact Tia.locked_setSprite _ _ _ _
      exact ⟨rest.motion.2.1.trans first.moreHmove, rest.motion.1.trans first.pixel,
        fun free => (rest.ctr (locked.trans free)).trans (first.ctr free)⟩
    · have first := Tia.rippleSprite_other p ct ne t
      have rest := ih nodup (List.mem_of_ne_of_mem ne h) (first.hblank.trans blank)
      rw [Tia.goes_of_same first] at rest
      exact ⟨rest.moreHmove, rest.pixel.trans (by rw [first.motion.1]),
        fun free => (rest.ctr (first.locked.trans free)).trans (by rw [first.ctr free])⟩

/-- A clock that is no multiple of four decodes nothing (R417). -/
theorem Tia.decodeLine_idle {t : Tia} (h : t.hclk % 4 ≠ 0) : t.decodeLine = t := by
  unfold Tia.decodeLine
  split_ifs with h0 h16 h32 h68 h76
  all_goals first | rfl | exact absurd (by rw [‹t.hclk = _›]) h

/-- The stages of a clock of `RisingPhi2` inside the blank while the ripple runs. -/
theorem Tia.stages_ripple (p : Params) {t : Tia} {ct : Nat} (running : t.hmoveCt = some ct)
    (phase : t.ctr.pclk = .fallingPhi1) (blank : t.hblank = true) :
    (t.clock.decodeLine.rippleStage p).spriteStage p = t.clock.ripple p ct := by
  have clock : t.clock.ctr = ⟨t.ctr.count, .risingPhi2⟩ := by
    show t.ctr.tick hsyncLen = _
    rw [Counter.tick_eq, phase]
    rfl
  have idle : t.clock.hclk % 4 ≠ 0 := by
    rw [Tia.hclk, clock]
    show (4 * t.ctr.count + 2) % 4 ≠ 0
    omega
  have ripples : t.clock.rippleStage p = t.clock.ripple p ct := by
    unfold Tia.rippleStage
    rw [show t.clock.hmoveCt = some ct from running, clock]
  have still : (t.clock.ripple p ct).hblank = true :=
    ((Tia.sameLine_foldl (Tia.rippleSprite p ct) spriteOrder (Tia.sameLine_rippleSprite p ct) t.clock).hblank).trans blank
  rw [Tia.decodeLine_idle idle, ripples, Tia.spriteStage, if_pos still]

theorem Tia.locked_eq_false {t : Tia} {s : SpriteId} (h0 : s = .m0 → t.m0.resetToPlayer = false)
    (h1 : s = .m1 → t.m1.resetToPlayer = false) : t.locked s = false := by
  cases s
  case m0 => exact h0 rfl
  case m1 => exact h1 rfl
  all_goals rfl

theorem mem_spriteOrder (s : SpriteId) : s ∈ spriteOrder := by cases s <;> decide

/-- Settles O36: the clock's stages are one ripple step, in which each sprite's part is its own. -/
theorem hmoveRipple : Obligations.HmoveRipple := by
  intro p t u ct running phase blank waiting hu
  have ev := Tia.tick_sameButEvents p waiting
  rw [← hu, Tia.drawn, Tia.stages_ripple p running phase blank] at ev
  refine ⟨ev.hmoveCt, fun s go hgo => ?_⟩
  have sprite : ∀ k, (t.clock.ripple p ct).emit.sprite k = (spriteOrder.foldl (Tia.rippleSprite p ct) t.clock).sprite k :=
    fun k => by cases k <;> rfl
  have same : ∀ k, t.clock.sprite k = t.sprite k := fun k => by cases k <;> rfl
  have rippled := Tia.foldl_rippleSprite p ct (by decide : spriteOrder.Nodup) (mem_spriteOrder s)
    (show t.clock.hblank = true from blank)
  have goes : t.clock.goes ct s = go := by rw [hgo, Tia.goes, same]
  rw [goes] at rippled
  obtain ⟨more, pixel, ctr⟩ := rippled
  rw [same] at pixel ctr
  refine ⟨?_, ?_, fun h0 h1 => ?_⟩
  · rw [ev.field s Sprite.moreHmove fun _ => rfl, sprite, more]
  · rw [ev.field s Sprite.hmovedPixel fun _ => rfl, sprite, pixel]
  · rw [ev.field s Sprite.ctr fun _ => rfl, sprite]
    exact ctr (Tia.locked_eq_false (t := t.clock) h0 h1)

/-! ### Pixels -/

theorem Phase.beq_active (ph : Phase) : (ph == .active) = decide (ph = .active) := by
  cases ph <;> rfl

theorem Missile.pixel_eq (k : Missile) :
    k.pixel = decide (k.sprite.phase = .active ∧ k.enable = true ∧ k.resetToPlayer = false) := by
  unfold Missile.pixel Sprite.drawing
  rw [Phase.beq_active]
  cases k.enable <;> cases k.resetToPlayer <;> simp

/-- The playfield's pattern, bit by bit (R427). -/
theorem Playfield.pattern (k : Playfield) {i : Nat} (h : i < 20) :
    (pf0Bits k.pf0 ++ (byteBits k.pf1).reverse ++ byteBits k.pf2)[i]? = some (k.patternBit i) := by
  interval_cases i <;> rfl

theorem Playfield.pixel_eq (k : Playfield) {x i : Nat}
    (hi : i = if 80 ≤ x ∧ k.reflect = true then 19 - x % 80 / 4 else x % 80 / 4) :
    (pf0Bits k.pf0 ++ (byteBits k.pf1).reverse ++ byteBits k.pf2)[i]? = some (k.pixel x) := by
  have inside : i < 20 := by
    rw [hi]
    split <;> omega
  rw [k.pattern inside, hi]
  rfl

/-! ### A visible clock -/

/-- Two TIA states whose colours and sound agree. -/
structure SameColours (t u : Tia) : Prop where
  pf : ({ u.pf with events := [] } : Playfield) = { t.pf with events := [] }
  p0 : u.p0.colour = t.p0.colour
  p1 : u.p1.colour = t.p1.colour
  audio : u.audio = t.audio

theorem SameColours.trans {t u v : Tia} (h : SameColours t u) (k : SameColours u v) : SameColours t v :=
  ⟨k.pf.trans h.pf, k.p0.trans h.p0, k.p1.trans h.p1, k.audio.trans h.audio⟩

theorem SameColours.field {t u : Tia} (h : SameColours t u) {α : Type} (f : Playfield → α)
    (hf : ∀ k : Playfield, f { k with events := [] } = f k) : f u.pf = f t.pf := by
  rw [← hf u.pf, h.pf, hf]

theorem Tia.sameColours_setEvents (t : Tia) (g : Group) (es : List Event) : SameColours t (t.setEvents g es) := by
  rcases g with _ | s | _
  · exact ⟨rfl, rfl, rfl, rfl⟩
  · cases s <;> exact ⟨rfl, rfl, rfl, rfl⟩
  · exact ⟨rfl, rfl, rfl, rfl⟩

theorem Tia.tick_sameColours {t : Tia} (p : Params) (h : Tia.Waiting t) : SameColours (Tia.drawn p t) (t.tick p) := by
  rw [Tia.tick_waiting p h]
  generalize Tia.drawn p t = w
  induction groupOrder generalizing w with
  | nil => exact ⟨rfl, rfl, rfl, rfl⟩
  | cons g gs ih => exact (Tia.sameColours_setEvents w g _).trans (ih _)

theorem Tia.decodeLine_cx (t : Tia) : t.decodeLine.cx = t.cx := by
  unfold Tia.decodeLine
  split_ifs <;> rfl

theorem Tia.collide_blank {t : Tia} (h : t.hblank = true ∨ t.vblank = true) : t.collide = t.cx := by
  unfold Tia.collide
  rw [if_pos (by rcases h with h | h <;> simp [h])]

theorem Tia.not_blank {t : Tia} (h : t.hblank = false) (v : t.vblank = false) : ¬(t.hblank || t.vblank) = true := by
  rw [h, v]
  decide

/-- The colour where the playfield has priority (R442). -/
theorem Tia.colour_priority {t : Tia} (h : t.hblank = false) (v : t.vblank = false) (pri : t.pf.priority = true) :
    t.colour = some (if t.pf.pixel t.pixelX || t.bl.pixel then t.pf.colupf else if t.p0.pixel || t.m0.pixel then t.p0.colour
      else if t.p1.pixel || t.m1.pixel then t.p1.colour else t.pf.colubk) := by
  unfold Tia.colour
  simp only [if_neg (Tia.not_blank h v), pri, if_true]

/-- The colour where the players have priority (R442). -/
theorem Tia.colour_players {t : Tia} (h : t.hblank = false) (v : t.vblank = false) (pri : t.pf.priority = false) :
    t.colour = some (if t.p0.pixel || t.m0.pixel then t.p0.colour else if t.p1.pixel || t.m1.pixel then t.p1.colour
      else if t.pf.pixel t.pixelX || t.bl.pixel then
        (if t.pf.score = true ∧ t.pf.pixel t.pixelX = true then (if t.pixelX < 80 then t.p0.colour else t.p1.colour)
          else t.pf.colupf)
      else t.pf.colubk) := by
  unfold Tia.colour
  simp only [if_neg (Tia.not_blank h v), pri, Bool.false_eq_true, if_false, Bool.and_eq_true]

/-- Settles O40: what the last stage of a clock computes from the pixels of that clock. -/
theorem visibleClock : Obligations.VisibleClock := by
  refine ⟨fun k => ?_, Missile.pixel_eq, fun k => ?_, fun k x i => k.pixel_eq, fun p t u waiting hu => ?_⟩
  · unfold Player.pixel Sprite.drawing
    rw [Phase.beq_active]
  · unfold Ball.pixel Sprite.drawing
    rw [Phase.beq_active]
  have ev := Tia.tick_sameButEvents p waiting
  have colours := Tia.tick_sameColours p waiting
  obtain ⟨w, hw⟩ : ∃ w, w = (t.clock.decodeLine.rippleStage p).spriteStage p := ⟨_, rfl⟩
  have cx : w.cx = t.cx := by rw [hw, (Tia.sameLine_stages p t).cx, Tia.decodeLine_cx]; rfl
  rw [← hu, Tia.drawn, ← hw] at ev colours
  have collisions : u.cx = w.collide := ev.cx
  have colour : u.signal.colour = w.colour := congrArg Signal.colour ev.signal
  refine ⟨fun blank => ?_, fun hblank vblank x f hx hf => ?_⟩
  · rw [ev.hblank, ev.vblank] at blank
    exact ⟨(collisions.trans (Tia.collide_blank blank)).trans cx, colour.trans (Tia.colour_blank w blank)⟩
  · replace hblank : w.hblank = false := ev.hblank.symm.trans hblank
    replace vblank : w.vblank = false := ev.vblank.symm.trans vblank
    obtain ⟨p0, p1, m0, m1, bl, field⟩ := ev.pix
    have x_eq : x = w.pixelX := by rw [hx, Tia.hclk, ev.ctr]; rfl
    have f_eq : f = w.pf.pixel w.pixelX := by rw [hf, field, x_eq]; rfl
    have score := colours.field Playfield.score fun _ => rfl
    have priority := colours.field Playfield.priority fun _ => rfl
    have colupf := colours.field Playfield.colupf fun _ => rfl
    have colubk := colours.field Playfield.colubk fun _ => rfl
    refine ⟨?_, ?_, ?_, ?_⟩
    · rw [collisions, Tia.collide, if_neg (Tia.not_blank hblank vblank), ← cx, p0, p1, m0, m1, bl, f_eq]
      rfl
    · rw [ev.cx]
      exact congrArg Signal.collisions ev.signal
    · rw [colours.audio]
      exact congrArg Signal.audio ev.signal
    · intro a b c ha hb hc
      rw [p0, m0] at ha
      rw [p1, m1] at hb
      rw [f_eq, bl] at hc
      rw [priority, score, colupf, colubk, colours.p0, colours.p1, colour, ha, hb, hc, x_eq, f_eq]
      exact ⟨fun pri => Tia.colour_priority hblank vblank pri, fun pri _ => Tia.colour_players hblank vblank pri⟩

end Sys2Proof.Machine
end

section
/-! PROOFS. What every Thumb instruction costs and leaves unchanged (R480, R482, R497 to R500). -/

namespace Sys2Proof.Machine

/-! ### Cycle counts -/

/-- Two counts added. -/
def CycleCounts.plus (k l : CycleCounts) : CycleCounts := ⟨k.n + l.n, k.s + l.s, k.i + l.i⟩

/-- All the cycles of a count. -/
def CycleCounts.all (k : CycleCounts) : Nat := k.n + k.s + k.i

/-- The counts of some bus cycles (R498). -/
def countsOf : List ArmCycle → CycleCounts
  | [] => ⟨0, 0, 0⟩
  | c :: rest => ((⟨0, 0, 0⟩ : CycleCounts).add c).plus (countsOf rest)

theorem CycleCounts.plus_none (k : CycleCounts) : k.plus ⟨0, 0, 0⟩ = k := rfl

theorem CycleCounts.plus_assoc (k l m : CycleCounts) : (k.plus l).plus m = k.plus (l.plus m) := by
  simp only [CycleCounts.plus, Nat.add_assoc]

theorem CycleCounts.all_plus (k l : CycleCounts) : (k.plus l).all = k.all + l.all := by
  simp only [CycleCounts.plus, CycleCounts.all]
  omega

theorem CycleCounts.add_eq_plus (k : CycleCounts) (c : ArmCycle) : k.add c = k.plus ((⟨0, 0, 0⟩ : CycleCounts).add c) := by
  rcases c with ⟨_ | _, _⟩ | ⟨_ | _, _⟩ | _ <;> rfl

theorem countsOf_append (ks ls : List ArmCycle) : countsOf (ks ++ ls) = (countsOf ks).plus (countsOf ls) := by
  induction ks with
  | nil => simp only [List.nil_append, countsOf, CycleCounts.plus, Nat.zero_add]
  | cons c rest ih => rw [List.cons_append, countsOf, countsOf, ih, CycleCounts.plus_assoc]

/-- With the default access time a memory cycle costs one cycle (R497). -/
theorem memCost_default {p : Params} (h : p.flashNum = 0) (mode : BitVec 2) (afterI sequential fetch : Bool) (a : Word) :
    memCost p mode afterI sequential fetch a = p.unit := by
  have stretch : p.stretchUnits = p.unit := by
    rw [Params.stretchUnits, h, Nat.mul_zero]
    exact Nat.max_zero _
  unfold memCost
  rw [stretch, Nat.max_eq_left (Nat.sub_le _ _), ite_self, ite_self]

theorem cycleCost_default {p : Params} (h : p.flashNum = 0) (a : Arm) (c : ArmCycle) : cycleCost p a c = p.unit := by
  cases c with
  | fetch sq x => exact memCost_default h _ _ _ _ _
  | data sq x => exact memCost_default h _ _ _ _ _
  | internal => rfl

/-! ### What a part of an instruction costs and leaves -/

/-- `t` is `s` after a part of an instruction that takes the cycles `k`: nothing outside the ARM and the log changes, memories
stay canonical, and `R[15]` is as it was while no PC write is marked (R480, R482). -/
structure Costs (k : CycleCounts) (s t : State) : Prop where
  world : ({ t with arm := s.arm, log := s.log } : State) = s
  counts : t.arm.instr = s.arm.instr.plus k
  units : s.params.flashNum = 0 → t.arm.instrUnits = s.arm.instrUnits + s.params.unit * k.all
  progMem : s.arm.progMem.wf = true → t.arm.progMem.wf = true
  varMem : s.arm.varMem.wf = true → t.arm.varMem.wf = true
  pc : t.arm.wrotePC = false → s.arm.wrotePC = false ∧ t.reg 15 = s.reg 15

namespace Costs

variable {k l : CycleCounts} {s t u : State}

theorem params (h : Costs k s t) : t.params = s.params := (State.mk.inj h.world).1

theorem trans (h : Costs k s t) (g : Costs l t u) : Costs (k.plus l) s u where
  world := by
    have step := congrArg (fun w : State => ({ w with arm := s.arm, log := s.log } : State)) g.world
    exact Eq.trans (by exact step) h.world
  counts := by rw [g.counts, h.counts, CycleCounts.plus_assoc]
  units flash := by
    rw [g.units (h.params ▸ flash), h.units flash, h.params, CycleCounts.all_plus, Nat.mul_add, Nat.add_assoc]
  progMem wf := g.progMem (h.progMem wf)
  varMem wf := g.varMem (h.varMem wf)
  pc kept := by
    obtain ⟨middle, later⟩ := g.pc kept
    obtain ⟨first, earlier⟩ := h.pc middle
    exact ⟨first, later.trans earlier⟩

/-- A part without cycles after one with some. -/
theorem free (h : Costs k s t) (g : Costs ⟨0, 0, 0⟩ t u) : Costs k s u := h.trans g

theorem refl (s : State) : Costs ⟨0, 0, 0⟩ s s where
  world := rfl
  counts := rfl
  units _ := rfl
  progMem := id
  varMem := id
  pc kept := ⟨kept, rfl⟩

/-- A change of the ARM that touches neither accounts nor memories. -/
theorem ofArm {a : Arm} (instr : a.instr = s.arm.instr) (units : a.instrUnits = s.arm.instrUnits)
    (progMem : s.arm.progMem.wf = true → a.progMem.wf = true) (varMem : s.arm.varMem.wf = true → a.varMem.wf = true)
    (pc : a.wrotePC = false → s.arm.wrotePC = false ∧ a.reg 15 = s.reg 15) : Costs ⟨0, 0, 0⟩ s { s with arm := a } where
  world := rfl
  counts := instr
  units _ := units
  progMem := progMem
  varMem := varMem
  pc := pc

end Costs

/-! ### Cycles charged -/

theorem State.charge_costs (ks : List ArmCycle) (s : State) : Costs (countsOf ks) s (s.charge ks) := by
  induction ks generalizing s with
  | nil => exact .refl s
  | cons c rest ih =>
    have first : Costs ((⟨0, 0, 0⟩ : CycleCounts).add c) s (s.charge [c]) :=
      { world := rfl
        counts := s.arm.instr.add_eq_plus c
        units := fun flash => by
          show s.arm.instrUnits + cycleCost s.params s.arm c = _
          rw [cycleCost_default flash]
          rcases c with ⟨_ | _, _⟩ | ⟨_ | _, _⟩ | _ <;> exact congrArg (s.arm.instrUnits + ·) (Nat.mul_one _).symm
        progMem := id
        varMem := id
        pc := fun kept => ⟨kept, rfl⟩ }
    exact first.trans (ih (s.charge [c]))

theorem State.charge1S_costs (s : State) : Costs ⟨0, 1, 0⟩ s s.charge1S :=
  s.charge_costs [.fetch true s.arm.executingPC]

theorem countsOf_internal (k : Nat) : countsOf (List.replicate k .internal) = ⟨0, 0, k⟩ := by
  induction k with
  | zero => rfl
  | succ k ih =>
    rw [List.replicate_succ, countsOf, ih]
    exact congrArg (CycleCounts.mk 0 0) (Nat.add_comm 1 k)

theorem State.charge1SI_costs (k : Nat) (s : State) : Costs ⟨0, 1, k⟩ s (s.charge1SI k) := by
  have counts : countsOf (.fetch true s.arm.executingPC :: List.replicate k .internal) = ⟨0, 1, k⟩ := by
    rw [countsOf, countsOf_internal]
    exact congrArg (CycleCounts.mk 0 1) (Nat.zero_add k)
  exact counts ▸ s.charge_costs _

theorem State.chargeBranch_costs (target : Word) (s : State) : Costs ⟨1, 2, 0⟩ s (s.chargeBranch target) :=
  s.charge_costs [.fetch true s.arm.executingPC, .fetch false (target &&& 0xFFFFFFFE),
    .fetch true ((target &&& 0xFFFFFFFE) + 2)]

/-- The data cycles of `n` words: the first is N (R498). -/
theorem countsOf_multiData (a : Word) {n : Nat} (h : 0 < n) : countsOf (multiData a n) = ⟨1, n - 1, 0⟩ := by
  induction n with
  | zero => exact absurd h (Nat.lt_irrefl 0)
  | succ n ih =>
    have last : multiData a (n + 1) = multiData a n ++ [.data (n != 0) (a + BitVec.ofNat 32 (4 * n))] := by
      simp only [multiData, List.range_succ, List.map_append, List.map_singleton]
    rw [last, countsOf_append]
    rcases Nat.eq_zero_or_pos n with rfl | pos
    · rfl
    · rw [ih pos, show (n != 0) = true from bne_iff_ne.2 (Nat.ne_of_gt pos)]
      exact congrArg (fun m => CycleCounts.mk 1 m 0) (Nat.sub_add_cancel pos)

/-! ### Registers and flags written -/

theorem Arm.reg15_setReg {i : AnyReg} (h : i ≠ 15) (v : Word) (a : Arm) : (a.setReg i v).reg 15 = a.reg 15 :=
  (Arm.reg_setReg i 15 v a).trans (if_neg fun e => h e.symm)

theorem lowReg_ne_pc (r : LowReg) : lowReg r ≠ 15 := fun h =>
  absurd (congrArg BitVec.toNat h) (by
    rw [lowReg_toNat]
    exact Nat.ne_of_lt (Nat.lt_of_lt_of_le r.isLt (by decide)))

section Registers

variable (s : State)

theorem State.setReg_costs {i : AnyReg} (h : i ≠ 15) (v : Word) : Costs ⟨0, 0, 0⟩ s (s.mapArm (Arm.setReg i v)) :=
  .ofArm rfl rfl id id fun kept => ⟨kept, Arm.reg15_setReg h v s.arm⟩

theorem State.setLow_costs (r : LowReg) (v : Word) : Costs ⟨0, 0, 0⟩ s (s.setLow r v) :=
  s.setReg_costs (lowReg_ne_pc r) v

theorem State.thumbLogic_costs (rd : LowReg) (v : Word) : Costs ⟨0, 0, 0⟩ s (s.thumbLogic rd v) :=
  .ofArm rfl rfl id id fun kept => ⟨kept, Arm.reg15_setReg (lowReg_ne_pc rd) v s.arm⟩

theorem State.thumbShift_costs (rd : LowReg) (rc : Word × Bool) : Costs ⟨0, 0, 0⟩ s (s.thumbShift rd rc) :=
  .ofArm rfl rfl id id fun kept => ⟨kept, Arm.reg15_setReg (lowReg_ne_pc rd) rc.1 s.arm⟩

theorem State.thumbArith_costs (rd : LowReg) (o : ArmOut) : Costs ⟨0, 0, 0⟩ s (s.thumbArith rd o) :=
  .ofArm rfl rfl id id fun kept => ⟨kept, Arm.reg15_setReg (lowReg_ne_pc rd) o.r s.arm⟩

theorem State.thumbCompare_costs (o : ArmOut) : Costs ⟨0, 0, 0⟩ s (s.thumbCompare o) :=
  .ofArm rfl rfl id id fun kept => ⟨kept, rfl⟩

/-- A PC write marks itself. -/
theorem State.writePC_costs (target : Word) : Costs ⟨0, 0, 0⟩ s (s.mapArm (Arm.writePC target)) :=
  .ofArm rfl rfl id id nofun

theorem State.thumbJump_costs (target : Word) : Costs ⟨1, 2, 0⟩ s (s.thumbJump target) :=
  (s.chargeBranch_costs target).free (State.writePC_costs _ target)

theorem State.stackCheck_costs : Costs ⟨0, 0, 0⟩ s s.stackCheck := by
  rw [State.stackCheck_eq, State.checkedSp]
  split
  · exact ⟨rfl, rfl, fun _ => rfl, id, id, fun kept => ⟨kept, rfl⟩⟩
  · exact .refl s

theorem State.setRegChecked_costs {i : AnyReg} (h : i ≠ 15) (v : Word) : Costs ⟨0, 0, 0⟩ s (s.setRegChecked i v) := by
  unfold State.setRegChecked
  split
  · exact (s.setReg_costs h v).free (State.stackCheck_costs _)
  · exact s.setReg_costs h v

/-! ### The memory chain -/

theorem State.armIllegal_costs (isRead : Bool) (a : Word) : Costs ⟨0, 0, 0⟩ s (s.armIllegal isRead a) := by
  rw [State.armIllegal_eq]
  exact ⟨rfl, rfl, fun _ => rfl, id, id, fun kept => ⟨kept, rfl⟩⟩

theorem State.armRead_costs (a : Word) (n : Nat) : Costs ⟨0, 0, 0⟩ s (s.armRead a n).2 := by
  by_cases h : a.toNat % n = 0
  · cases hp : s.params.inProgram a n with
    | true => rw [s.armRead_program a n h hp]; exact .refl s
    | false =>
      cases hv : s.params.inVariable a n with
      | true => rw [s.armRead_variable a n h hp hv]; exact .refl s
      | false =>
        cases hr : s.params.peripheral a with
        | none => rw [s.armRead_unclaimed a n hp hv hr]; exact s.armIllegal_costs true a
        | some r =>
          rw [s.armRead_peripheral a n h hp hv hr]
          cases r <;> exact .ofArm rfl rfl id id fun kept => ⟨kept, rfl⟩
  · rw [s.armRead_misaligned a n h]
    exact s.armIllegal_costs true a

theorem State.armWrite_costs (a : Word) (n : Nat) (v : Word) : Costs ⟨0, 0, 0⟩ s (s.armWrite a n v) := by
  by_cases h : a.toNat % n = 0
  · cases hv : s.params.inVariable a n with
    | true =>
      rw [s.armWrite_variable a v n h hv]
      exact .ofArm rfl rfl id (fun wf => Memory.wf_writeLE wf _ _ _) fun kept => ⟨kept, rfl⟩
    | false =>
      cases hp : s.params.inProgram a n with
      | true =>
        rw [s.armWrite_program a v n h hv hp]
        split
        · exact .ofArm rfl rfl (fun wf => Memory.wf_writeLE wf _ _ _) id fun kept => ⟨kept, rfl⟩
        · exact s.armIllegal_costs false a
      | false =>
        rw [s.armWrite_elsewhere a v n h hv hp]
        split
        · next r _ => cases r <;> exact .ofArm rfl rfl id id fun kept => ⟨kept, rfl⟩
        · exact s.armIllegal_costs false a
  · rw [s.armWrite_misaligned a v n h]
    exact s.armIllegal_costs false a

end Registers

theorem State.storeRegs_costs (regs : List AnyReg) (a : Word) (s : State) : Costs ⟨0, 0, 0⟩ s (s.storeRegs regs a) := by
  induction regs generalizing s a with
  | nil => exact .refl s
  | cons r rest ih => exact (s.armWrite_costs a 4 (s.reg r)).free (ih _ _)

theorem State.loadRegs_costs {regs : List AnyReg} (h : 15 ∉ regs) (a : Word) (s : State) :
    Costs ⟨0, 0, 0⟩ s (s.loadRegs regs a) := by
  induction regs generalizing s a with
  | nil => exact .refl s
  | cons r rest ih =>
    rw [List.mem_cons, not_or] at h
    exact ((s.armRead_costs a 4).free (State.setReg_costs _ (Ne.symm h.1) _)).free (ih h.2 _ _)

/-! ### Loads and stores -/

theorem State.thumbLoad_costs (rd : LowReg) (a : Word) (n : Nat) (ext : Word → Word) (s : State) :
    Costs ⟨1, 1, 1⟩ s (s.thumbLoad rd a n ext) :=
  ((s.charge_costs [.fetch true s.arm.executingPC, .data false a, .internal]).free (State.armRead_costs _ a n)).free
    (State.setLow_costs _ rd _)

theorem State.thumbStore_costs (rd : LowReg) (a : Word) (n : Nat) (s : State) :
    Costs ⟨2, 0, 0⟩ s (s.thumbStore rd a n) :=
  (s.charge_costs [.fetch false s.arm.executingPC, .data false a]).free (State.armWrite_costs _ a n _)

theorem pc_not_listed (list : Byte) : (15 : AnyReg) ∉ listRegs list := not_mem_listRegs (by decide) list

/-- The cycles of a block store of `n` words (R500). -/
theorem State.chargeStores_costs (a : Word) {n : Nat} (h : 0 < n) (s : State) :
    Costs ⟨2, n - 1, 0⟩ s (s.charge (.fetch false s.arm.executingPC :: multiData a n)) := by
  have counts : countsOf (.fetch false s.arm.executingPC :: multiData a n) = ⟨2, n - 1, 0⟩ := by
    rw [countsOf, countsOf_multiData a h]
    exact congrArg (fun m => CycleCounts.mk 2 m 0) (Nat.zero_add _)
  exact counts ▸ s.charge_costs _

/-- The cycles of a block load of `n` words (R500). -/
theorem State.chargeLoads_costs (a : Word) {n : Nat} (h : 0 < n) (s : State) :
    Costs ⟨1, n, 1⟩ s (s.charge (.fetch true s.arm.executingPC :: multiData a n ++ [.internal])) := by
  have counts : countsOf (.fetch true s.arm.executingPC :: multiData a n ++ [.internal]) = ⟨1, n, 1⟩ := by
    rw [countsOf_append, countsOf, countsOf_multiData a h]
    exact congrArg (fun m => CycleCounts.mk 1 m 1) (Nat.add_sub_cancel' h)
  exact counts ▸ s.charge_costs _

theorem State.popRegs_costs (list : Byte) {n : Nat} (h : 0 < n) (s : State) :
    Costs ⟨1, n, 1⟩ s (s.popRegs (listRegs list) n) :=
  ((s.chargeLoads_costs (s.reg 13) h).free (State.loadRegs_costs (pc_not_listed list) _ _)).free
    (State.setReg_costs _ (by decide) _)

theorem length_listRegs_pos {list : Byte} (h : listRegs list ≠ []) : 0 < (listRegs list).length := List.length_pos_iff.2 h

/-! ### The cost of each instruction -/

/-- The cost of a conditional branch (R500). -/
def State.branchCost (cond : Nat) (s : State) : CycleCounts :=
  if condition cond s.arm.n s.arm.z s.arm.c s.arm.v then ⟨1, 2, 0⟩ else ⟨0, 1, 0⟩

/-- The N, S and I cycles of an instruction (R500). -/
def thumbCost (i : ThumbInstr) (s : State) : CycleCounts :=
  match i with
  | .tLslReg .. | .tLsrReg .. | .tAsrReg .. | .tRorReg .. => ⟨0, 1, 1⟩
  | .tMul rd _ => ⟨0, 1, mulCycles (s.low rd)⟩
  | .tLdrPc .. | .tLdrReg .. | .tLdrbReg .. | .tLdrhReg .. | .tLdsbReg .. | .tLdshReg .. | .tLdrImm .. | .tLdrbImm ..
  | .tLdrhImm .. | .tLdrSp .. => ⟨1, 1, 1⟩
  | .tStrReg .. | .tStrbReg .. | .tStrhReg .. | .tStrImm .. | .tStrbImm .. | .tStrhImm .. | .tStrSp .. => ⟨2, 0, 0⟩
  | .tAddHi hd _ | .tMovHi hd _ => if hd = 15 then ⟨1, 2, 0⟩ else ⟨0, 1, 0⟩
  | .tBx _ | .tB _ | .tBlLo _ => ⟨1, 2, 0⟩
  | .tPush r list => ⟨2, (pushRegs r list).length - 1, 0⟩
  | .tStmia _ list => ⟨2, (listRegs list).length - 1, 0⟩
  | .tLdmia _ list => ⟨1, (listRegs list).length, 1⟩
  | .tPop r list => if r = 0 then ⟨1, (listRegs list).length, 1⟩ else ⟨2, (listRegs list).length + 2, 1⟩
  | .tBeq _ => s.branchCost 0
  | .tBne _ => s.branchCost 1
  | .tBcs _ => s.branchCost 2
  | .tBcc _ => s.branchCost 3
  | .tBmi _ => s.branchCost 4
  | .tBpl _ => s.branchCost 5
  | .tBvs _ => s.branchCost 6
  | .tBvc _ => s.branchCost 7
  | .tBhi _ => s.branchCost 8
  | .tBls _ => s.branchCost 9
  | .tBge _ => s.branchCost 10
  | .tBlt _ => s.branchCost 11
  | .tBgt _ => s.branchCost 12
  | .tBle _ => s.branchCost 13
  | _ => ⟨0, 1, 0⟩

theorem State.condBranch_costs (cond : Nat) (off : Byte) (s : State) :
    Costs (s.branchCost cond) s (s.condBranch cond off) := by
  unfold State.branchCost State.condBranch
  split
  · exact s.thumbJump_costs _
  · exact s.charge1S_costs

/-- An instruction that always completes. -/
theorem Costs.next {k : CycleCounts} {s t x : State} (h : (.next x : Result) = .next t) (c : Costs k s x) : Costs k s t :=
  Host.Outcome.next.inj h ▸ c

/-- A register or PC written by a high-register form. -/
theorem Costs.high {s t : State} {hd : AnyReg} {target : Word}
    (h : (if hd = 15 then .next ((s.chargeBranch target).mapArm (Arm.writePC target))
      else .next (s.charge1S.setRegChecked hd target) : Result) = .next t) :
    Costs (if hd = 15 then ⟨1, 2, 0⟩ else ⟨0, 1, 0⟩) s t := by
  by_cases pc : hd = 15
  · rw [if_pos pc] at h ⊢
    exact .next h (s.thumbJump_costs target)
  · rw [if_neg pc] at h ⊢
    exact .next h (s.charge1S_costs.free (State.setRegChecked_costs _ pc target))

theorem execTPush_costs {r : BitVec 1} {list : Byte} {s t : State} (h : execTPush r list s = .next t) :
    Costs ⟨2, (pushRegs r list).length - 1, 0⟩ s t := by
  simp only [execTPush] at h
  split at h
  · exact absurd h nofun
  · next some =>
    exact .next h (((s.chargeStores_costs _ (List.length_pos_iff.2 some)).free (State.storeRegs_costs _ _ _)).free
      (State.setRegChecked_costs _ (by decide) _))

theorem execTStmia_costs {rb : LowReg} {list : Byte} {s t : State} (h : execTStmia rb list s = .next t) :
    Costs ⟨2, (listRegs list).length - 1, 0⟩ s t := by
  simp only [execTStmia] at h
  split at h
  · exact absurd h nofun
  · next some =>
    split at h
    · exact absurd h nofun
    · exact .next h (((s.chargeStores_costs _ (length_listRegs_pos some)).free (State.storeRegs_costs _ _ _)).free
        (State.setLow_costs _ _ _))

theorem execTLdmia_costs {rb : LowReg} {list : Byte} {s t : State} (h : execTLdmia rb list s = .next t) :
    Costs ⟨1, (listRegs list).length, 1⟩ s t := by
  simp only [execTLdmia] at h
  split at h
  · exact absurd h nofun
  · next some =>
    refine .next h ?_
    have loaded := (s.chargeLoads_costs (s.low rb) (length_listRegs_pos some)).free
      (State.loadRegs_costs (pc_not_listed list) (s.low rb) _)
    split
    · exact loaded
    · exact loaded.free (State.setLow_costs _ _ _)

theorem execTPop_costs {r : BitVec 1} {list : Byte} {s t : State} (h : execTPop r list s = .next t) :
    Costs (if r = 0 then ⟨1, (listRegs list).length, 1⟩ else ⟨2, (listRegs list).length + 2, 1⟩) s t := by
  simp only [execTPop] at h
  split at h
  · split at h
    · exact absurd h nofun
    · next some =>
      rw [if_pos ‹_›]
      exact .next h ((s.popRegs_costs list (length_listRegs_pos some)).free (State.stackCheck_costs _))
  · rw [if_neg ‹_›]
    have popped := s.popRegs_costs list (Nat.succ_pos (listRegs list).length)
    have loaded := (popped.free (State.armRead_costs _ (s.reg 13 + bytesOf (listRegs list)) 4)).free
      (State.stackCheck_costs _)
    exact .next h ((loaded.trans (State.charge_costs [.fetch false _, .fetch true _] _)).free (State.writePC_costs _ _))

theorem execTBx_costs {rs : AnyReg} {s t : State} (h : execTBx rs s = .next t) : Costs ⟨1, 2, 0⟩ s t := by
  unfold execTBx at h
  split at h
  · exact .next h (s.thumbJump_costs _)
  · exact absurd h nofun

/-- Every Thumb instruction that completes takes the cycles of R500 and leaves the rest of the machine alone. -/
theorem thumbExec_costs (i : ThumbInstr) {s t : State} (h : thumbExec i s = .next t) : Costs (thumbCost i s) s t := by
  cases i
  case tLslImm | tLsrImm | tAsrImm => exact .next h (s.charge1S_costs.free (State.thumbShift_costs _ _ _))
  case tLslReg | tLsrReg | tAsrReg | tRorReg =>
    exact .next h ((s.charge1SI_costs 1).free (State.thumbShift_costs _ _ _))
  case tAddReg | tSubReg | tAddImm3 | tSubImm3 | tAddImm8 | tSubImm8 | tAdc | tSbc | tNeg =>
    exact .next h (s.charge1S_costs.free (State.thumbArith_costs _ _ _))
  case tCmpImm | tCmpReg | tCmn | tCmpHi => exact .next h (s.charge1S_costs.free (State.thumbCompare_costs _ _))
  case tMovImm | tAnd | tEor | tOrr | tBic | tMvn =>
    exact .next h (s.charge1S_costs.free (State.thumbLogic_costs _ _ _))
  case tTst => exact .next h (s.charge1S_costs.free (.ofArm rfl rfl id id fun kept => ⟨kept, rfl⟩))
  case tMul =>
    exact .next h (((s.charge1SI_costs _).free (State.thumbLogic_costs _ _ _)).free
      (.ofArm rfl rfl id id fun kept => ⟨kept, rfl⟩))
  case tAddHi | tMovHi => exact .high h
  case tBx => exact execTBx_costs h
  case tLdrPc | tLdrReg | tLdrbReg | tLdrhReg | tLdsbReg | tLdshReg | tLdrImm | tLdrbImm | tLdrhImm | tLdrSp =>
    exact .next h (s.thumbLoad_costs _ _ _ _)
  case tStrReg | tStrbReg | tStrhReg | tStrImm | tStrbImm | tStrhImm | tStrSp =>
    exact .next h (s.thumbStore_costs _ _ _)
  case tAddPc | tAddSp => exact .next h (s.charge1S_costs.free (State.setLow_costs _ _ _))
  case tAddSpImm | tSubSpImm =>
    exact .next h (s.charge1S_costs.free (State.setRegChecked_costs _ (by decide) _))
  case tPush => exact execTPush_costs h
  case tPop => exact execTPop_costs h
  case tStmia => exact execTStmia_costs h
  case tLdmia => exact execTLdmia_costs h
  case tBeq | tBne | tBcs | tBcc | tBmi | tBpl | tBvs | tBvc | tBhi | tBls | tBge | tBlt | tBgt | tBle =>
    exact .next h (s.condBranch_costs _ _)
  case tSwi => exact absurd h nofun
  case tB => exact .next h (s.thumbJump_costs _)
  case tBlHi => exact .next h (s.charge1S_costs.free (State.setReg_costs _ (by decide) _))
  case tBlLo =>
    exact .next h ((s.chargeBranch_costs _).free (.ofArm rfl rfl id id nofun))

end Sys2Proof.Machine
end

section
/-! PROOFS. The cycles of the Thumb instructions (R497 to R500). -/

namespace Sys2Proof.Machine

/-- The instructions of `thumbCycleRows`, as halfwords decode to them. -/
def thumbCycleInstrs (rd rs ro : LowReg) (hd hs : AnyReg) (off : BitVec 5) (imm3 : BitVec 3) (imm : Byte)
    (imm7 : BitVec 7) (far : BitVec 11) : List ThumbInstr :=
  [.tLslImm rd rs off, .tLsrImm rd rs off, .tAsrImm rd rs off, .tAddReg rd rs ro, .tSubReg rd rs ro,
   .tAddImm3 rd rs imm3, .tSubImm3 rd rs imm3, .tMovImm rd imm, .tCmpImm rd imm, .tAddImm8 rd imm,
   .tSubImm8 rd imm, .tAnd rd rs, .tEor rd rs, .tLslReg rd rs, .tLsrReg rd rs, .tAsrReg rd rs, .tAdc rd rs,
   .tSbc rd rs, .tRorReg rd rs, .tTst rd rs, .tNeg rd rs, .tCmpReg rd rs, .tCmn rd rs, .tOrr rd rs,
   .tBic rd rs, .tMvn rd rs, .tCmpHi hd hs, .tLdrPc rd imm, .tStrReg rd rs ro, .tStrbReg rd rs ro,
   .tLdrReg rd rs ro, .tLdrbReg rd rs ro, .tStrhReg rd rs ro, .tLdrhReg rd rs ro, .tLdsbReg rd rs ro,
   .tLdshReg rd rs ro, .tStrImm rd rs off, .tLdrImm rd rs off, .tStrbImm rd rs off, .tLdrbImm rd rs off,
   .tStrhImm rd rs off, .tLdrhImm rd rs off, .tStrSp rd imm, .tLdrSp rd imm, .tAddPc rd imm, .tAddSp rd imm,
   .tAddSpImm imm7, .tSubSpImm imm7, .tB far, .tBlHi far, .tBlLo far]

theorem thumbCycleRows_eq (s : State) (rd rs ro : LowReg) (hd hs : AnyReg) (off : BitVec 5) (imm3 : BitVec 3) (imm : Byte)
    (imm7 : BitVec 7) (far : BitVec 11) : thumbCycleRows rd rs ro hd hs off imm3 imm imm7 far =
      (thumbCycleInstrs rd rs ro hd hs off imm3 imm imm7 far).map fun j => (j.toInstr, thumbCost j s) := rfl

/-- The early termination of MUL, with its bounds written out (R500). -/
theorem mulCycles_eq (v : Word) : mulCycles v =
    if -256 ≤ v.toInt ∧ v.toInt < 256 then 1 else if -65536 ≤ v.toInt ∧ v.toInt < 65536 then 2
    else if -16777216 ≤ v.toInt ∧ v.toInt < 16777216 then 3 else 4 := by
  unfold mulCycles
  norm_num

theorem length_listRegs (list : Byte) : (listRegs list).length = ((List.range 8).filter fun j => list.getLsbD j).length :=
  List.length_map _

theorem length_pushRegs (r : BitVec 1) (list : Byte) : (pushRegs r list).length = (listRegs list).length + r.toNat := by
  rw [pushRegs, List.length_append]
  rcases (by decide : ∀ r : BitVec 1, r = 0 ∨ r = 1) r with rfl | rfl <;> rfl

/-- A decoded halfword's cost, of the instruction it stands for. -/
theorem exec_costs (j : ThumbInstr) {i : Instr} {s t : State} (hi : i = j.toInstr) (h : exec i s = .next t) :
    Costs (thumbCost j s) s t :=
  thumbExec_costs j (by rw [← exec_toInstr, ← hi]; exact h)

/-- A conditional branch costs by its row's condition (R500). -/
theorem exec_branch_costs {off : Byte} {i : Instr} {taken : Bool} {s t : State}
    (row : (i, taken) ∈ List.zip (thumbBranchRows off) (conditionHolds s.armFlags)) (h : exec i s = .next t) :
    Costs (if taken then ⟨1, 2, 0⟩ else ⟨0, 1, 0⟩) s t := by
  rw [exec_thumbBranchRows s off _ row] at h
  cases taken with
  | true => exact .next h (s.thumbJump_costs _)
  | false => exact .next h s.charge1S_costs

/-- Settles O55: each form's cost is `thumbCost` of the halfword it stands for. -/
theorem thumbCycles : Obligations.ThumbCycles := by
  intro s t i k form h
  have costs : Costs k s t := by
    rcases form with ⟨rd, rs, ro, hd, hs, off, imm3, imm, imm7, far, row⟩ | ⟨rd, rs, m, hi, hk, hm⟩ | ⟨hs, hi, hk⟩ |
      ⟨hd, hs, hi, hk⟩ | ⟨off, row, hk⟩ | ⟨off, row, hk⟩ | ⟨list, n, hn, block⟩
    · rw [thumbCycleRows_eq s] at row
      obtain ⟨j, -, hj⟩ := List.mem_map.1 row
      obtain ⟨hi, hk⟩ := Prod.mk.inj hj
      exact hk ▸ exec_costs j hi.symm h
    · have cost := exec_costs (.tMul rd rs) hi h
      rw [hk, hm _ rfl, ← mulCycles_eq]
      exact cost
    · exact hk ▸ exec_costs (.tBx hs) hi h
    · rcases hi with hi | hi
      · exact hk ▸ exec_costs (.tAddHi hd hs) hi h
      · exact hk ▸ exec_costs (.tMovHi hd hs) hi h
    · exact hk ▸ exec_branch_costs row h
    · exact hk ▸ exec_branch_costs row h
    · rw [← length_listRegs] at hn
      rcases block with ⟨r, hi, hk⟩ | ⟨rb, hi, hk⟩ | ⟨rb, hi, hk⟩ | ⟨hi, hk⟩ | ⟨hi, hk⟩
      · have cost := exec_costs (.tPush r list) hi h
        rw [hk, hn, ← length_pushRegs]
        exact cost
      · rw [hk, hn]; exact exec_costs (.tStmia rb list) hi h
      · rw [hk, hn]; exact exec_costs (.tLdmia rb list) hi h
      · rw [hk, hn]; exact exec_costs (.tPop 0 list) hi h
      · rw [hk, hn]; exact exec_costs (.tPop 1 list) hi h
  exact ⟨costs.counts, costs.units⟩

end Sys2Proof.Machine
end

section
/-! PROOFS. `Run()` and the steps that run no instruction (R374, R375, R471, R476, R480, R486, R507, R720). -/

namespace Sys2Proof.Machine

/-! ### What a part of a `Run()` leaves -/

/-- `R[15]` is two past the place of execution (R480). -/
def State.Piped (s : State) : Prop := s.reg 15 = s.arm.executingPC + 2

/-- What every part of a `Run()` keeps: all but the ARM, the log and the shim; of the shim all but a function started. -/
structure RunKeeps (s t : State) : Prop where
  world : ({ t with arm := s.arm, log := s.log, shim := s.shim } : State) = s
  shim : ∃ f, t.shim = { s.shim with running := f } ∧ (s.shim.running.fn.isSome = true → f.fn.isSome = true)
  progMem : s.arm.progMem.wf = true → t.arm.progMem.wf = true
  varMem : s.arm.varMem.wf = true → t.arm.varMem.wf = true

namespace RunKeeps

variable {s t u : State}

theorem refl (s : State) : RunKeeps s s := ⟨rfl, ⟨_, rfl, id⟩, id, id⟩

theorem trans (h : RunKeeps s t) (g : RunKeeps t u) : RunKeeps s u where
  world := by
    have step := congrArg (fun w : State => ({ w with arm := s.arm, log := s.log, shim := s.shim } : State)) g.world
    exact Eq.trans (by exact step) h.world
  shim := by
    obtain ⟨f, hf, some⟩ := h.shim
    obtain ⟨g, hg, some'⟩ := g.shim
    refine ⟨g, by rw [hg, hf], fun on => some' ?_⟩
    rw [hf]
    exact some on
  progMem wf := g.progMem (h.progMem wf)
  varMem wf := g.varMem (h.varMem wf)

/-- A change of the ARM that leaves its memories canonical. -/
theorem ofArm {a : Arm} (progMem : s.arm.progMem.wf = true → a.progMem.wf = true)
    (varMem : s.arm.varMem.wf = true → a.varMem.wf = true) : RunKeeps s { s with arm := a } :=
  ⟨rfl, ⟨_, rfl, id⟩, progMem, varMem⟩

theorem ofCosts {k : CycleCounts} (h : Costs k s t) : RunKeeps s t where
  world := by
    have shim := (State.mk.inj h.world).2.2.2.2.2.2.2.1
    exact Eq.trans (by rw [← shim]) h.world
  shim := ⟨s.shim.running, (State.mk.inj h.world).2.2.2.2.2.2.2.1, id⟩
  progMem := h.progMem
  varMem := h.varMem

theorem mapper (h : RunKeeps s t) : t.mapper = s.mapper := by
  have same := congrArg State.mapper h.world
  exact same

theorem outside (h : RunKeeps s t) : (t.params, t.cpu, t.bus, t.riot, t.tia) = (s.params, s.cpu, s.bus, s.riot, s.tia) := by
  have same := congrArg (fun w : State => (w.params, w.cpu, w.bus, w.riot, w.tia)) h.world
  exact same

end RunKeeps

theorem State.piped_atPC (s : State) (x : Word) : (s.mapArm (Arm.atPC x)).Piped :=
  (Arm.reg_setReg 15 15 (x + 2) s.arm).trans (if_pos rfl)

/-- The end of an instruction at `x` re-establishes the pipeline. -/
theorem State.retirePC_keeps {s t : State} {x : Word} (h : s.retirePC x = .ok t)
    (at_x : s.arm.wrotePC = false → s.reg 15 = x + 4) : RunKeeps s t ∧ t.Piped := by
  cases wrote : s.arm.wrotePC with
  | false =>
    rw [State.retirePC_next wrote] at h
    rw [← Except.ok.inj h]
    refine ⟨.ofArm id id, (at_x wrote).trans ?_⟩
    show x + 4 = x + 2 + 2
    rw [BitVec.add_assoc]
    rfl
  | true =>
    by_cases ends : s.reg 15 = s.params.armResetLr &&& 0xFFFFFFFE
    · rw [State.retirePC_end wrote ends] at h
      rw [← Except.ok.inj h]
      exact ⟨.ofArm id id, s.piped_atPC _⟩
    · cases entry : s.params.entryTag (s.reg 15) with
      | none =>
        rw [State.retirePC_jump wrote ends entry] at h
        rw [← Except.ok.inj h]
        exact ⟨.ofArm id id, s.piped_atPC _⟩
      | some f =>
        rw [State.retirePC_entry wrote ends entry] at h
        split at h
        · rw [← Except.ok.inj h]
          exact ⟨⟨rfl, ⟨_, rfl, fun _ => rfl⟩, id, id⟩, s.piped_atPC _⟩
        · exact absurd h nofun

/-- The fetch of an instruction. -/
theorem State.armFetch_keeps (s : State) : RunKeeps s s.armFetch.2 ∧ s.armFetch.2.arm.wrotePC = false ∧
    s.armFetch.2.reg 15 = s.arm.executingPC + 4 :=
  ⟨(RunKeeps.ofCosts (s.armRead_costs s.arm.executingPC 2)).trans (.ofArm id id), rfl,
    (Arm.reg_setReg 15 15 _ _).trans (if_pos rfl)⟩

/-- An ARM instruction. -/
theorem State.armInstr_keeps {s t : State} (h : s.armInstr = .ok t) : RunKeeps s t ∧ t.Piped := by
  obtain ⟨fetched, -, at_x⟩ := s.armFetch_keeps
  unfold State.armInstr at h
  dsimp only at h
  cases hd : decodeHalf s.armFetch.1 with
  | error e => rw [hd] at h; exact absurd h nofun
  | ok i =>
    rw [hd] at h
    dsimp only at h
    cases hx : thumbExec i s.armFetch.2 with
    | fault e => rw [hx] at h; exact absurd h nofun
    | refused e => rw [hx] at h; exact absurd h nofun
    | next u =>
      rw [hx] at h
      dsimp only at h
      have costs := thumbExec_costs i hx
      cases hr : u.retirePC s.arm.executingPC with
      | error e => rw [hr] at h; exact absurd h nofun
      | ok w =>
        rw [hr] at h
        rw [← Except.ok.inj h]
        obtain ⟨retired, piped⟩ := State.retirePC_keeps hr fun kept => (costs.pc kept).2.trans at_x
        exact ⟨((fetched.trans (.ofCosts costs)).trans retired).trans (.ofArm id id), piped⟩

/-- A turn of the loop. -/
theorem State.armIterate_keeps {s t : State} (h : s.armIterate = .ok t) : RunKeeps s t ∧ (s.Piped → t.Piped) := by
  unfold State.armIterate at h
  split at h
  · rw [← Except.ok.inj h]
    exact ⟨.ofArm id id, id⟩
  · split at h
    · rw [← Except.ok.inj h]
      exact ⟨.ofArm id id, id⟩
    · cases hi : (s.mapArm fun a => { a with skipBreak := false }).armInstr with
      | error e => rw [hi] at h; exact absurd h nofun
      | ok u =>
        rw [hi] at h
        dsimp only at h
        split at h
        · exact absurd h nofun
        · rw [← Except.ok.inj h]
          obtain ⟨kept, piped⟩ := State.armInstr_keeps hi
          exact ⟨(RunKeeps.ofArm (s := s) (a := { s.arm with skipBreak := false }) id id).trans kept, fun _ => piped⟩

/-- The loop ends at a yield. -/
theorem State.armLoop_keeps (fuel : Nat) {s t : State} (h : State.armLoop fuel s = .ok t) :
    RunKeeps s t ∧ (s.Piped → t.Piped) ∧ t.arm.yield ≠ .running := by
  induction fuel generalizing s with
  | zero => exact absurd h nofun
  | succ fuel ih =>
    rw [State.armLoop] at h
    cases hi : s.armIterate with
    | error e => rw [hi] at h; exact absurd h nofun
    | ok u =>
      rw [hi] at h
      obtain ⟨kept, piped⟩ := State.armIterate_keeps hi
      dsimp only at h
      split at h
      · obtain ⟨rest, pipedRest, stopped⟩ := ih h
        exact ⟨kept.trans rest, pipedRest ∘ piped, stopped⟩
      · rw [← Except.ok.inj h]
        exact ⟨kept, piped, ‹_›⟩

/-- The beginning of `Run()` gives a pipeline where the program had ended (R474). -/
theorem State.beginRun_piped {s : State} (h : s.arm.yield ≠ .programEnded → s.Piped) :
    (s.mapArm (Arm.beginRun s.params)).Piped := by
  by_cases ended : s.arm.yield = .programEnded
  · show (s.arm.beginRun s.params).reg 15 = (s.arm.beginRun s.params).executingPC + 2
    rw [Arm.beginRun_of_ended _ ended]
    rfl
  · show (s.arm.beginRun s.params).reg 15 = (s.arm.beginRun s.params).executingPC + 2
    rw [Arm.beginRun_of_not_ended _ ended]
    exact h ended

theorem State.beginRun_keeps (s : State) : RunKeeps s (s.mapArm (Arm.beginRun s.params)) := by
  by_cases ended : s.arm.yield = .programEnded
  · refine .ofArm (a := s.arm.beginRun s.params) ?_ ?_ <;> rw [Arm.beginRun_of_ended _ ended] <;> exact id
  · refine .ofArm (a := s.arm.beginRun s.params) ?_ ?_ <;> rw [Arm.beginRun_of_not_ended _ ended] <;> exact id

/-- `Run()` to its yield: what the loop leaves, its cycles added to the debt. -/
theorem State.armRun_keeps {s t : State} (h : s.armRun = .ok t) : ∃ u, RunKeeps s u ∧ t = u.endRun ∧
    u.arm.yield ≠ .running ∧ ((s.arm.yield ≠ .programEnded → s.Piped) → u.Piped) := by
  unfold State.armRun at h
  cases hl : State.armLoop (s.params.armInstructionLimit + 2) (s.mapArm (Arm.beginRun s.params)) with
  | error e => rw [hl] at h; exact absurd h nofun
  | ok u =>
    rw [hl] at h
    obtain ⟨kept, piped, stopped⟩ := State.armLoop_keeps _ hl
    exact ⟨u, s.beginRun_keeps.trans kept, (Except.ok.inj h).symm, stopped, fun hp => piped (s.beginRun_piped hp)⟩

/-! ### The rest of a driver step -/

/-- A division by its quotient and remainder. -/
theorem div_mod_of_eq {x den q r : Nat} (hr : r < den) (h : q * den + r = x) : x / den = q ∧ x % den = r := by
  rw [← h, Nat.mul_comm q den]
  exact ⟨by rw [Nat.mul_add_div (Nat.zero_lt_of_lt hr), Nat.div_eq_of_lt hr, Nat.add_zero],
    by rw [Nat.mul_add_mod, Nat.mod_eq_of_lt hr]⟩

/-- The debt paid with an allowance and carry in the terms of R507. -/
theorem Mapper.pay_eq {p : Params} {m : Mapper} {allow carry : Nat} (hc : carry < p.armPerCpuDen)
    (h : allow * p.armPerCpuDen + carry = m.armCarry + p.armPerCpuNum) :
    m.pay p = { m with armCarry := carry, debt := m.debt - allow * p.unit } := by
  have den : max p.armPerCpuDen 1 = p.armPerCpuDen := Nat.max_eq_left (Nat.zero_lt_of_lt hc)
  obtain ⟨quotient, remainder⟩ := div_mod_of_eq hc h
  unfold Mapper.pay Mapper.allow
  simp only [den, quotient, remainder]

/-- One driver step's time passed, but for the mapper (R720). -/
def State.ticked (s : State) : State :=
  { s with riot := { s.riot with steps := s.riot.steps + 1 }, tia := s.tia.ticks s.params 3 }

theorem State.driverTail_ticked (s : State) : s.driverTail none = s.ticked.mapperStep := rfl

/-- A jammed CPU or one stalled by RDY takes a driver step without an access (R374, R375). -/
theorem step_idle {s : State} (config : s.configRefusal = none) (arm : s.mapper.variant = .coproc → s.arm.yield ≠ .running)
    (resetting : s.cpu.resetting = false) (waits : s.cpu.jammed = true ∨ s.tia.wsync = true) :
    step s = run (s.driverTail none) := by
  have resumes : ¬(s.mapper.variant = .coproc ∧ s.arm.yield = .running) := fun h => arm h.1 h.2
  unfold step
  simp only [config, if_neg resumes, resetting, Bool.false_eq_true, if_false]
  rcases waits with h | h
  · rw [if_pos h]
  · rw [if_pos h, ite_self]

theorem Yield.fatal_iff (y : Yield) : y.fatal = true ↔ y = .memoryAccessError ∨ y = .stackError := by
  cases y <;> simp [Yield.fatal]

/-- Phase 3 without a call (R507). -/
theorem State.mapperStep_rests {s : State} (cart : s.mapper.variant = .coproc)
    (h : s.mapper.triggered = false ∨ s.shim.running.fn.isSome = true ∨ s.arm.yield = .memoryAccessError ∨
      s.arm.yield = .stackError) : s.mapperStep = .ok { s with mapper := s.mapper.pay s.params } := by
  have rests : ¬(s.mapper.triggered && s.shim.running.fn.isNone && !s.arm.yield.fatal) = true := by
    rcases h with h | h | h | h
    · simp [h]
    · simp [Option.isSome_iff_ne_none.1 h]
    · simp [h, Yield.fatal]
    · simp [h, Yield.fatal]
  rw [State.mapperStep, if_pos cart]
  exact if_neg rests

/-- Phase 3 with a call (R507). -/
theorem State.mapperStep_runs {s : State} (cart : s.mapper.variant = .coproc) (triggered : s.mapper.triggered = true)
    (idle : s.shim.running.fn = none) (memory : s.arm.yield ≠ .memoryAccessError) (stack : s.arm.yield ≠ .stackError) :
    s.mapperStep = State.armRun { s with mapper := { s.mapper.pay s.params with triggered := false } } := by
  have fatal : s.arm.yield.fatal = false := Bool.eq_false_iff.2 fun h => ((Yield.fatal_iff _).1 h).elim memory stack
  have runs : (s.mapper.triggered && s.shim.running.fn.isNone && !s.arm.yield.fatal) = true := by
    rw [triggered, idle, fatal]
    rfl
  rw [State.mapperStep, if_pos cart]
  exact if_pos runs

/-- A turn of the loop that an interrupt request ends (R471). -/
theorem State.armResume_interrupt {s : State} (h : s.arm.interruptReq = true) : s.armResume = .ok
    (s.mapArm fun a => { a with interruptReq := false, yield := .syncWithVcs }).endRun := by
  have turn : s.armIterate = .ok (s.mapArm fun a => { a with interruptReq := false, yield := .syncWithVcs }) := by
    unfold State.armIterate
    exact if_pos h
  rw [State.armResume, turn]
  exact congrArg Except.ok (if_neg nofun)

/-- A turn of the loop that a breakpoint ends (R471, R665). -/
theorem State.armResume_breakpoint {s : State} (h : s.arm.interruptReq = false) (skip : s.arm.skipBreak = false)
    (listed : s.params.breakpoints.contains s.arm.executingPC = true) : s.armResume = .ok
    (s.mapArm fun a => { a with yield := .breakpoint }).endRun := by
  have turn : s.armIterate = .ok (s.mapArm fun a => { a with yield := .breakpoint }) := by
    unfold State.armIterate
    rw [if_neg (by rw [h]; nofun), if_pos (by rw [skip, listed]; rfl)]
  rw [State.armResume, turn]
  exact congrArg Except.ok (if_neg nofun)

theorem step_of_refusal {s : State} {r : Refusal} (h : s.configRefusal = some r) : step s = .refused r := by
  simp only [step, h]

/-- Settles O8: the branches of `step`, and what a `Run()` keeps. -/
theorem stepWithoutInstruction : Obligations.StepWithoutInstruction := by
  refine ⟨fun s arch => step_of_refusal ?_, fun s arch lost => step_of_refusal ?_,
    fun s arch lost flat k2 k4 => step_of_refusal ?_, fun s config plain resetting waits => ?_,
    fun s u allow carry config cart yield resetting waits hc ha hu => ?_, fun s t h => ?_,
    fun s config cart running interrupt => ?_, fun s config cart running interrupt skip listed => ?_⟩
  · simp only [State.configRefusal, arch, if_true]
  · simp only [State.configRefusal, arch, lost, reduceCtorEq, if_false, if_true]
  · simp only [State.configRefusal, arch, lost, flat, ne_eq, k2, k4, not_false_eq_true, and_self, reduceCtorEq,
      Bool.false_eq_true, if_false, if_true]
  · rw [step_idle config (fun h => absurd h plain) resetting waits, State.driverTail_plain plain]
    rfl
  · obtain ⟨v, hv⟩ : ∃ v, v = s.ticked := ⟨_, rfl⟩
    have mapper : v.mapper = s.mapper := by rw [hv]; rfl
    have shim : v.shim = s.shim := by rw [hv]; rfl
    have arm : v.arm = s.arm := by rw [hv]; rfl
    have params : v.params = s.params := by rw [hv]; rfl
    have paid : u = { v with mapper := v.mapper.pay v.params } := by
      rw [params, mapper, Mapper.pay_eq hc ha, hu, hv, State.ticked]
    rw [step_idle config (fun _ => yield) resetting waits, State.driverTail_ticked, ← hv]
    rw [← mapper] at cart
    rw [← mapper, ← shim, ← arm]
    refine ⟨fun rests => ?_, fun triggered idle memory stack => ?_⟩
    · rw [State.mapperStep_rests cart rests, ← paid]
      rfl
    · rw [State.mapperStep_runs cart triggered idle memory stack, paid]
  · obtain ⟨w, kept, ht, stopped, -⟩ := State.armRun_keeps h
    rw [ht]
    exact ⟨stopped, congrArg (fun m : Mapper => { m with debt := m.debt + w.arm.runUnits }) kept.mapper, kept.outside⟩
  · rw [step_of_running config cart running, State.armResume_interrupt interrupt]
    rfl
  · rw [step_of_running config cart running, State.armResume_breakpoint interrupt skip listed]
    rfl

end Sys2Proof.Machine
end

section
/-! PROOFS. The StrongARM functions on the bus (R620 to R635). -/

namespace Sys2Proof.Machine

/-! ### One shim tick -/

/-- A call that goes from one state to another, as `ShimRun` says of one call. -/
structure CallsTo (s : State) (c : ShimCall) (u : State) : Prop where
  waits : ∀ k, ¬c.awaits k → s.shimTick k = .ok (none, s)
  goes : ∀ k, c.awaits k → s.shimTick k = .ok (c.drives, u)
  stuff : u.shim.busStuff = c.stuffs.isSome
  data : ∀ b, c.stuffs = some b → u.shim.busStuffData = b

theorem ShimRun.cons {s u t : State} {c : ShimCall} {rest : List ShimCall} (h : CallsTo s c u) (r : ShimRun u rest t) :
    ShimRun s (c :: rest) t :=
  ⟨h.waits, u, h.goes, h.stuff, h.data, r⟩

theorem State.shimTick_waits {s : State} {st : ShimStep} (hst : s.shimStep = some st) {k : BusCycle}
    (h : s.shim.ready k st.act = false) : s.shimTick k = .ok (none, s) := by
  simp only [State.shimTick, hst, h, Bool.false_eq_true, if_false]

theorem State.shimTick_goes {s t : State} {st : ShimStep} (hst : s.shimStep = some st) {k : BusCycle}
    (h : s.shim.ready k st.act = true)
    (ht : State.shimAdvance k st { s with shim := s.shim.perform k st } = .ok t) :
    s.shimTick k = .ok (s.shim.driven k st.act, t) := by
  simp only [State.shimTick, hst, h, if_true, ht]

theorem State.shimTick_stops {s : State} {e : Stop} {st : ShimStep} (hst : s.shimStep = some st) {k : BusCycle}
    (h : s.shim.ready k st.act = true)
    (ht : State.shimAdvance k st { s with shim := s.shim.perform k st } = .error e) : s.shimTick k = .error e := by
  simp only [State.shimTick, hst, h, if_true, ht]

/-- A step of the function is a call, when the cycle it waits for, the byte it drives and where it goes do not depend on the
6507's byte. -/
theorem CallsTo.of_step {s u : State} {c : ShimCall} {st : ShimStep} (hst : s.shimStep = some st)
    (ready : ∀ k, s.shim.ready k st.act = true ↔ c.awaits k) (driven : ∀ k, s.shim.driven k st.act = c.drives)
    (next : ∀ k, State.shimAdvance k st { s with shim := s.shim.perform k st } = .ok u)
    (stuff : u.shim.busStuff = c.stuffs.isSome) (data : ∀ b, c.stuffs = some b → u.shim.busStuffData = b) :
    CallsTo s c u where
  waits k hk := State.shimTick_waits hst (Bool.eq_false_iff.2 fun h => hk ((ready k).1 h))
  goes k hk := by rw [State.shimTick_goes hst ((ready k).2 hk) (next k), driven]
  stuff := stuff
  data := data

theorem awaits_read (e : BusAddr) (d : Option Byte) (v : Option Byte) (k : BusCycle) :
    (match k with
      | .read a => a == e
      | .write _ _ => false) = true ↔ (⟨true, e, d, v⟩ : ShimCall).awaits k := by
  cases k <;> simp [ShimCall.awaits]

theorem awaits_write (a : BusAddr) (d : Option Byte) (v : Option Byte) (k : BusCycle) :
    (match k with
      | .read _ => false
      | .write b _ => b == a) = true ↔ (⟨false, a, d, v⟩ : ShimCall).awaits k := by
  cases k <;> simp [ShimCall.awaits]

/-! ### The default table -/

theorem Params.functionSteps_default {p : Params} (h : p.strongArmFunctions = defaultFunctions) :
    ∀ r ∈ defaultFunctions, p.functionSteps r.1 = some r.2 := by
  unfold Params.functionSteps
  rw [h, defaultFunctions]
  repeat refine List.forall_mem_cons.2 ⟨rfl, ?_⟩
  exact List.forall_mem_nil _

/-- A StrongARM function under way: its state, the expected address, and the bus stuffing. -/
def State.shimAt (n : Nat) (e : BusAddr) (stuff : Bool) (d : Byte) (s : State) : State :=
  { s with shim := { s.shim with
      running := { s.shim.running with state := n }, expectedAddr := e, busStuff := stuff, busStuffData := d } }

/-- Where a default function stands. -/
theorem State.shimStep_at {s : State} {f : FnTag} {steps : List ShimStep} (cart : s.mapper.variant = .coproc)
    (running : s.shim.running.fn = some f) (table : s.params.functionSteps f = some steps) (n : Nat) (e : BusAddr)
    (stuff : Bool) (d : Byte) : (s.shimAt n e stuff d).shimStep = steps[n]? := by
  simp only [State.shimStep, State.shimAt, cart, running, table, if_true]

/-! ### Values -/

theorem byte_of_word (b : Byte) : (b.setWidth 32).setWidth 8 = b := by
  rw [BitVec.setWidth_setWidth_of_le _ (by decide), BitVec.setWidth_eq]

theorem busAddr_of_word (b : Byte) : (b.setWidth 32).setWidth 13 = b.setWidth 13 :=
  BitVec.setWidth_setWidth_of_le _ (by decide)

/-- The next expected address, in the statement's terms. -/
theorem nextExpected_eq (e : BusAddr) : nextExpected e = afterExpected e := by
  refine BitVec.eq_of_toNat_eq ?_
  have low : (e + 1).toNat &&& 4095 = (e.toNat + 1) % 4096 := by
    rw [show 4095 = 2 ^ 12 - 1 from rfl, Nat.and_two_pow_sub_one_eq_mod, BitVec.toNat_add]
    exact Nat.mod_mod_of_dvd _ (by decide)
  have left : (nextExpected e).toNat = 4096 ||| (e.toNat + 1) % 4096 := by
    rw [nextExpected, BitVec.toNat_append, BitVec.toNat_add, BitVec.toNat_setWidth]
    show 4096 ||| (e.toNat % 4096 + 1) % 4096 = _
    rw [Nat.mod_add_mod]
  rw [left, afterExpected, BitVec.toNat_or, BitVec.toNat_and, ← low]
  rfl

section Calls

variable {s : State} {e : BusAddr} {d : Byte} {n : Nat} {st : ShimStep}

/-- `injectRomByte` on the way (R626). -/
theorem CallsTo.inject {v : ShimSource} {b : Byte} (hst : (s.shimAt n e false d).shimStep = some { act := .inject v })
    (hv : ∀ k, (s.shimAt n e false d).shim.byteOf k v = b) :
    CallsTo (s.shimAt n e false d) { reads := true, addr := e, drives := some b }
      (s.shimAt (n + 1) (afterExpected e) false d) := by
  refine .of_step hst (awaits_read e _ _) (fun k => congrArg some (hv k)) (fun k => ?_) rfl nofun
  rw [← nextExpected_eq]
  rfl

/-- `injectRomByte` that leaves a byte to stuff (R626, R628). -/
theorem CallsTo.injectStuff {v w : ShimSource} {b c : Byte}
    (hst : (s.shimAt n e false d).shimStep = some { act := .inject v, stuff := some w })
    (hv : ∀ k, (s.shimAt n e false d).shim.byteOf k v = b) (hw : ∀ k, (s.shimAt n e false d).shim.byteOf k w = c) :
    CallsTo (s.shimAt n e false d) { reads := true, addr := e, drives := some b, stuffs := some c }
      (s.shimAt (n + 1) (afterExpected e) true c) := by
  refine .of_step hst (awaits_read e _ _) (fun k => congrArg some (hv k)) (fun k => ?_) rfl
    (fun x hx => Option.some.inj hx)
  rw [← nextExpected_eq, ← hw k]
  rfl

/-- `injectRomByte` as the last call, with the address the function then expects. -/
theorem CallsTo.injectLast {v : ShimSource} {b : Byte} {x : Option BusAddr}
    (hst : (s.shimAt n e false d).shimStep = some { act := .inject v, expect := x, andThen := .finish none })
    (hv : ∀ k, (s.shimAt n e false d).shim.byteOf k v = b)
    (clear : ((s.shimAt n (x.getD (afterExpected e)) false d).endFunction none).shim.busStuff = false) :
    CallsTo (s.shimAt n e false d) { reads := true, addr := e, drives := some b }
      ((s.shimAt n (x.getD (afterExpected e)) false d).endFunction none) := by
  refine .of_step hst (awaits_read e _ _) (fun k => congrArg some (hv k)) (fun k => ?_) clear nofun
  cases x with
  | none => rw [Option.getD_none, ← nextExpected_eq]; rfl
  | some x => rfl

/-- A wait for a write, as the last call (R628). -/
theorem CallsTo.yieldLast {v : ShimSource} {a : BusAddr}
    (hst : (s.shimAt n e false d).shimStep = some { act := .yieldDataBus v, andThen := .finish none })
    (hv : ∀ k, ((s.shimAt n e false d).shim.value k v).setWidth 13 = a)
    (clear : ((s.shimAt n e false d).endFunction none).shim.busStuff = false) :
    CallsTo (s.shimAt n e false d) { reads := false, addr := a } ((s.shimAt n e false d).endFunction none) := by
  refine .of_step hst (fun k => ?_) (fun k => rfl) (fun k => rfl) clear nofun
  rw [← awaits_write a, ← hv k]
  cases k <;> rfl

/-- A stuffed write as the last call (R628). -/
theorem CallsTo.stuffLast {v : ShimSource} {a : BusAddr}
    (hst : (s.shimAt n e true d).shimStep = some { act := .stuffWrite v .stuffData, andThen := .finish none })
    (hv : ∀ k, ((s.shimAt n e true d).shim.value k v).setWidth 13 = a)
    (clear : ((s.shimAt n e false d).endFunction none).shim.busStuff = false) :
    CallsTo (s.shimAt n e true d) { reads := false, addr := a, drives := some d }
      ((s.shimAt n e false d).endFunction none) := by
  refine .of_step hst (fun k => ?_) (fun k => congrArg some (byte_of_word d)) (fun k => rfl) clear nofun
  rw [← awaits_write a, ← hv k]
  cases k <;> rfl

/-- A read that does not advance the address, as the last call (R635). -/
theorem CallsTo.awaitLast
    (hst : (s.shimAt n e false d).shimStep = some { act := .awaitRead, andThen := .finish none })
    (clear : ((s.shimAt n e false d).endFunction none).shim.busStuff = false) :
    CallsTo (s.shimAt n e false d) { reads := true, addr := e } ((s.shimAt n e false d).endFunction none) :=
  .of_step hst (awaits_read e _ _) (fun _ => rfl) (fun _ => rfl) clear nofun

end Calls

/-! ### The end of a function -/

theorem State.endFunction_clear (s : State) (n : Nat) (e : BusAddr) (d : Byte) :
    ((s.shimAt n e false d).endFunction none).shim.busStuff = false := by
  unfold State.endFunction
  split <;> rfl

/-- Where the last call of a function leads (R622), in the terms of the statement. -/
structure Ended (s t : State) (e : BusAddr) (d : Byte) : Prop where
  clear : t.shim.busStuff = false
  expected : t.shim.expectedAddr = e
  masks : (t.shim.maskA, t.shim.maskX, t.shim.maskY) = (s.shim.maskA, s.shim.maskX, s.shim.maskY)
  data : t.shim.busStuffData = d
  back : ∀ g, s.shim.pushed.fn = some g → t.shim.running = s.shim.pushed ∧ t.shim.pushed.fn = none ∧
    { t with shim := s.shim } = s
  arm : s.shim.pushed.fn = none → t.shim.running.fn = none ∧ t.shim.pushed = s.shim.pushed ∧
    (∀ pc, pc = s.reg 14 &&& 0xFFFFFFFE →
      t.arm = { s.arm.setReg 15 (pc + 2) with executingPC := pc, instructionPC := pc }) ∧
    t.mapper = { s.mapper with triggered := true } ∧ { t with shim := s.shim, arm := s.arm, mapper := s.mapper } = s

theorem State.endFunction_ended (s : State) (n : Nat) (e : BusAddr) (d : Byte) :
    Ended s ((s.shimAt n e false d).endFunction none) e d := by
  cases pushed : s.shim.pushed.fn with
  | some g =>
    have returns : (s.shimAt n e false d).endFunction none = { s.shimAt n e false d with
        shim := { (s.shimAt n e false d).shim with
          running := s.shim.pushed, pushed := { s.shim.pushed with fn := none } } } :=
      if_pos (by show s.shim.pushed.fn.isSome = true; rw [pushed]; rfl)
    rw [returns]
    exact ⟨rfl, rfl, rfl, rfl, fun _ _ => ⟨rfl, rfl, rfl⟩, fun none => absurd (pushed.symm.trans none) nofun⟩
  | none =>
    have returns : (s.shimAt n e false d).endFunction none = { s.shimAt n e false d with
        shim := { (s.shimAt n e false d).shim with
          running := { (s.shimAt n e false d).shim.running with fn := none }, busStuff := false }
        arm := s.arm.atPC (s.reg 14 &&& 0xFFFFFFFE)
        mapper := { s.mapper with triggered := true } } :=
      if_neg (by show ¬s.shim.pushed.fn.isSome = true; rw [pushed]; nofun)
    rw [returns]
    refine ⟨rfl, rfl, rfl, rfl, fun g some => absurd (pushed.symm.trans some) nofun, fun _ => ⟨rfl, rfl, ?_, rfl, rfl⟩⟩
    rintro pc rfl
    rfl

/-! ### The nine functions -/

section Functions

variable {s : State} {regs : Vector Word 4} {e : BusAddr} {d : Byte} {f : FnTag}

/-- A function that injects an opcode and its argument (LDA, LDX, LDY). -/
theorem runs_load {op : Word} {b : Byte} (cart : s.mapper.variant = .coproc) (hf : s.shim.running.fn = some f)
    (hr : s.shim.running.regs = regs) (hb : op.setWidth 8 = b)
    (table : s.params.functionSteps f = some [{ act := .inject (.const op) },
      { act := .inject (.argByte 0), andThen := .finish none }]) :
    ∃ t, ShimRun (s.shimAt 0 e false d) [{ reads := true, addr := e, drives := some b },
      { reads := true, addr := afterExpected e, drives := some (regs[0].setWidth 8) }] t ∧
      Ended s t (afterExpected (afterExpected e)) d := by
  subst hr hb
  have at_n := fun n e stuff => State.shimStep_at cart hf table n e stuff d
  refine ⟨_, .cons (.inject (at_n 0 e false) fun _ => rfl) (.cons (.injectLast (x := none) (at_n 1 _ false)
    (fun _ => byte_of_word _) (s.endFunction_clear _ _ _)) rfl), s.endFunction_ended _ _ _⟩

/-- A function that injects an opcode and an address and waits for the write (STA, STX, STY). -/
theorem runs_store {op : Word} {b : Byte} (cart : s.mapper.variant = .coproc) (hf : s.shim.running.fn = some f)
    (hr : s.shim.running.regs = regs) (hb : op.setWidth 8 = b)
    (table : s.params.functionSteps f = some [{ act := .inject (.const op) }, { act := .inject (.argByte 0) },
      { act := .yieldDataBus (.argByte 0), andThen := .finish none }]) :
    ∃ t, ShimRun (s.shimAt 0 e false d) [{ reads := true, addr := e, drives := some b },
      { reads := true, addr := afterExpected e, drives := some (regs[0].setWidth 8) },
      { reads := false, addr := (regs[0].setWidth 8 : Byte).setWidth 13 }] t ∧
      Ended s t (afterExpected (afterExpected e)) d := by
  subst hr hb
  have at_n := fun n e stuff => State.shimStep_at cart hf table n e stuff d
  refine ⟨_, .cons (.inject (at_n 0 e false) fun _ => rfl) (.cons (.inject (at_n 1 _ false) fun _ => byte_of_word _)
    (.cons (.yieldLast (at_n 2 _ false) (fun _ => busAddr_of_word _) (s.endFunction_clear _ _ _)) rfl)),
    s.endFunction_ended _ _ _⟩

/-- `vcsWrite3`. -/
theorem runs_write (cart : s.mapper.variant = .coproc) (hf : s.shim.running.fn = some .vcsWrite3)
    (hr : s.shim.running.regs = regs) (table : s.params.functionSteps .vcsWrite3 = some
      [{ act := .inject (.const 0x85) }, { act := .inject (.argByte 0), stuff := some (.argByte 1) },
       { act := .stuffWrite (.argByte 0) .stuffData, andThen := .finish none }]) :
    ∃ t, ShimRun (s.shimAt 0 e false d) [{ reads := true, addr := e, drives := some 0x85 },
      { reads := true, addr := afterExpected e, drives := some (regs[0].setWidth 8), stuffs := some (regs[1].setWidth 8) },
      { reads := false, addr := (regs[0].setWidth 8 : Byte).setWidth 13, drives := some (regs[1].setWidth 8) }] t ∧
      Ended s t (afterExpected (afterExpected e)) (regs[1].setWidth 8) := by
  subst hr
  have at_n := fun n e stuff d => State.shimStep_at cart hf table n e stuff d
  refine ⟨_, .cons (.inject (at_n 0 e false d) fun _ => rfl)
    (.cons (.injectStuff (at_n 1 _ false d) (fun _ => byte_of_word _) fun _ => byte_of_word _)
      (.cons (.stuffLast (at_n 2 _ true _) (fun _ => busAddr_of_word _) (s.endFunction_clear _ _ _)) rfl)),
    s.endFunction_ended _ _ _⟩

/-- `vcsJmp3`. -/
theorem runs_jmp (cart : s.mapper.variant = .coproc) (hf : s.shim.running.fn = some .vcsJmp3)
    (table : s.params.functionSteps .vcsJmp3 = some [{ act := .inject (.const 0x4C) }, { act := .inject (.const 0x00) },
      { act := .inject (.const 0x10), expect := some 0x1000, andThen := .finish none }]) :
    ∃ t, ShimRun (s.shimAt 0 e false d) [{ reads := true, addr := e, drives := some 0x4C },
      { reads := true, addr := afterExpected e, drives := some 0x00 },
      { reads := true, addr := afterExpected (afterExpected e), drives := some 0x10 }] t ∧ Ended s t 0x1000 d := by
  have at_n := fun n e stuff => State.shimStep_at cart hf table n e stuff d
  refine ⟨_, .cons (.inject (at_n 0 e false) fun _ => rfl) (.cons (.inject (at_n 1 _ false) fun _ => rfl)
    (.cons (.injectLast (x := some 0x1000) (at_n 2 _ false) (fun _ => rfl) (s.endFunction_clear _ _ _)) rfl)),
    s.endFunction_ended _ _ _⟩

/-- `vcsNop2`. -/
theorem runs_nop (cart : s.mapper.variant = .coproc) (hf : s.shim.running.fn = some .vcsNop2)
    (table : s.params.functionSteps .vcsNop2 = some [{ act := .inject (.const 0xEA) },
      { act := .awaitRead, andThen := .finish none }]) :
    ∃ t, ShimRun (s.shimAt 0 e false d) [{ reads := true, addr := e, drives := some 0xEA },
      { reads := true, addr := afterExpected e }] t ∧ Ended s t (afterExpected e) d := by
  have at_n := fun n e stuff => State.shimStep_at cart hf table n e stuff d
  exact ⟨_, .cons (.inject (at_n 0 e false) fun _ => rfl) (.cons (.awaitLast (at_n 1 _ false)
    (s.endFunction_clear _ _ _)) rfl), s.endFunction_ended _ _ _⟩

end Functions

/-- Each default function makes its calls and ends. -/
theorem shimFunctions_run {s : State} {regs : Vector Word 4} (cart : s.mapper.variant = .coproc)
    (table : s.params.strongArmFunctions = defaultFunctions) (hr : s.shim.running.regs = regs) (e : BusAddr) (d : Byte) :
    ∀ r ∈ shimFunctionRows (regs[0].setWidth 8) (regs[1].setWidth 8) e, s.shim.running.fn = some r.1 →
      ∃ t, ShimRun (s.shimAt 0 e false d) r.2.1 t ∧
        Ended s t r.2.2 (if r.1 = .vcsWrite3 then regs[1].setWidth 8 else d) := by
  have steps := Params.functionSteps_default table
  rw [defaultFunctions] at steps
  simp only [List.forall_mem_cons] at steps
  obtain ⟨write, jmp, lda, ldx, ldy, sta, stx, sty, nop, -⟩ := steps
  refine List.forall_mem_cons.2 ⟨fun hf => runs_write cart hf hr write, ?_⟩
  refine List.forall_mem_cons.2 ⟨fun hf => runs_jmp cart hf jmp, ?_⟩
  refine List.forall_mem_cons.2 ⟨fun hf => runs_load cart hf hr rfl lda, ?_⟩
  refine List.forall_mem_cons.2 ⟨fun hf => runs_load cart hf hr rfl ldx, ?_⟩
  refine List.forall_mem_cons.2 ⟨fun hf => runs_load cart hf hr rfl ldy, ?_⟩
  refine List.forall_mem_cons.2 ⟨fun hf => runs_store cart hf hr rfl sta, ?_⟩
  refine List.forall_mem_cons.2 ⟨fun hf => runs_store cart hf hr rfl stx, ?_⟩
  refine List.forall_mem_cons.2 ⟨fun hf => runs_store cart hf hr rfl sty, ?_⟩
  refine List.forall_mem_cons.2 ⟨fun hf => runs_nop cart hf nop, ?_⟩
  exact List.forall_mem_nil _

/-! ### A push -/

theorem Shim.arguments_get (sh : Shim) (k : BusCycle) (args : Vector ShimSource 4) (i : Fin 4) :
    (sh.arguments k args)[i.val] = sh.value k args[i.val] := by
  fin_cases i <;> rfl

section Push

variable {s : State} {k : BusCycle} {st : ShimStep} {g : FnTag} {args : Vector ShimSource 4}
  (hst : s.shimStep = some st) (push : st.andThen = .push g args) (ready : s.shim.ready k st.act = true)

include hst push ready

/-- A second push (R623). -/
theorem State.shimTick_doublePush (pushed : s.shim.pushed.fn.isSome = true) :
    s.shimTick k = .error (.fault .doublePush) := by
  refine State.shimTick_stops hst ready ?_
  have held : (s.shim.perform k st).moveOn.pushed.fn.isSome = true := by
    rw [Shim.moveOn, (s.shim.perform_frame k st).2.1]
    exact pushed
  simp only [State.shimAdvance, push]
  exact if_pos held

/-- A push: the other function starts with the arguments it is given, and the pushing one has moved on (R623). -/
theorem State.shimTick_push (pushed : s.shim.pushed.fn = none) (known : (s.params.functionSteps g).isSome = true) :
    s.shimTick k = .ok (s.shim.driven k st.act, { s with shim := { (s.shim.perform k st) with
      pushed := { s.shim.running with state := s.shim.running.state + 1 }
      running := ⟨some g, 0, (s.shim.perform k st).moveOn.arguments k args⟩ } }) := by
  refine State.shimTick_goes hst ready ?_
  have running : (s.shim.perform k st).running = s.shim.running := (s.shim.perform_frame k st).1
  have free : ¬(s.shim.perform k st).moveOn.pushed.fn.isSome = true := by
    rw [Shim.moveOn, (s.shim.perform_frame k st).2.1, pushed]
    nofun
  have found : ¬(s.params.functionSteps g).isNone = true := by
    rw [Option.isNone_iff_eq_none]
    exact Option.isSome_iff_ne_none.1 known
  simp only [State.shimAdvance, push]
  refine (if_neg free).trans ((if_neg found).trans ?_)
  rw [← running]
  rfl

end Push

/-! ### What the bus sees -/

theorem State.busRead_injected {s t : State} {a : Addr} {b : Byte} (h : s.shimTick (.read (busAddr a)) = .ok (some b, t))
    (range : rangeOf (busAddr a) = .cartridge) :
    s.busRead a = .ok (b, (t.mapperListen (busAddr a) b).latchBus a b true) := by
  simp only [State.busRead, h, range]

theorem State.busWrite_stuffed {s t u : State} {a : Addr} {v b : Byte}
    (h : s.shimTick (.write (busAddr a) v) = .ok (some b, t)) (stored : t.deviceWrite (busAddr a) b = .ok (none, u)) :
    s.busWrite a v = .ok (none, (u.mapperListen (busAddr a) b).latchBus a b false) := by
  simp only [State.busWrite, h, Option.getD_some, stored]

/-- A mapper that listens touches neither RAM nor the TIA. -/
theorem State.mapperListen_devices (s : State) (a : BusAddr) (v : Byte) :
    (s.mapperListen a v).riot = s.riot ∧ (s.mapperListen a v).tia = s.tia := by
  unfold State.mapperListen
  split <;> exact ⟨rfl, rfl⟩

theorem State.deviceWrite_ram {s : State} {a : BusAddr} (h : rangeOf a = .ram) (v : Byte) :
    s.deviceWrite a v = .ok (none, { s with riot := { s.riot with ram := s.riot.ram.write (ramIndex a) v } }) := by
  simp only [State.deviceWrite, h]

theorem State.deviceWrite_tia {s : State} {a : BusAddr} {v : Byte} {w : Tia} (h : rangeOf a = .tia)
    (phase : s.params.tiaWritePhase = 0) (hw : s.tia.write s.params (a.setWidth 6) v = .ok w) :
    s.deviceWrite a v = .ok (none, { s with tia := w }) := by
  simp only [State.deviceWrite, h, phase, if_true, hw]

/-- Settles O56: the calls one by one, then `endFunction()`. -/
theorem shimFunctions : Obligations.ShimFunctions := by
  refine ⟨fun s r regs cart table running clear row => ?_, fun s k st g args hst push ready => ⟨?_, fun free known => ?_⟩,
    fun s t a b injected range => ?_, fun s t a v b stuffed => ⟨fun ram wf => ?_, fun range phase w hw => ?_⟩⟩
  · have start : s.shimAt 0 s.shim.expectedAddr false s.shim.busStuffData = s := by
      rw [State.shimAt, ← clear, ← show s.shim.running.state = 0 by rw [running]]
    obtain ⟨t, calls, ended⟩ := shimFunctions_run cart table (by rw [running]) s.shim.expectedAddr s.shim.busStuffData r row
      (by rw [running])
    rw [start] at calls
    exact ⟨t, calls, ended.clear, ended.expected, ended.masks, ended.data, ended.back, ended.arm⟩
  · exact State.shimTick_doublePush hst push ready
  · have running : (s.shim.perform k st).moveOn.running.regs = s.shim.running.regs := by
      rw [Shim.moveOn, (s.shim.perform_frame k st).1]
    refine ⟨_, State.shimTick_push hst push ready free known, rfl, rfl, rfl, fun i j hij => ?_, fun i w hiw => ?_, rfl⟩
    · refine (Shim.arguments_get _ k args i).trans ?_
      rw [hij, ← running]
      rfl
    · refine (Shim.arguments_get _ k args i).trans ?_
      rw [hiw]
      rfl
  · exact ⟨_, State.busRead_injected injected range, rfl⟩
  · refine ⟨_, State.busWrite_stuffed stuffed (State.deviceWrite_ram ram b), ?_, rfl⟩
    show Memory.read (State.riot (State.mapperListen _ _ _)).ram _ = b
    rw [(State.mapperListen_devices _ _ _).1]
    exact Memory.read_write_same wf _ _
  · exact ⟨_, State.busWrite_stuffed stuffed (State.deviceWrite_tia range phase hw),
      (State.mapperListen_devices _ _ _).2, rfl⟩

end Sys2Proof.Machine
end

section
/-! PROOFS. The TIA stays valid: its counters and pixels in range, its scheduler within capacity (R401, R406, R410, R429,
R433). -/

namespace Sys2Proof.Machine

/-! ### Ranges -/

theorem Counter.count_tick_lt {len : Nat} (pos : 0 < len) {k : Counter} (h : k.count < len) : (k.tick len).count < len := by
  rw [Counter.tick_eq]
  split
  · exact Nat.mod_lt _ pos
  · exact h

theorem Sprite.Valid.tick {k : Sprite} (h : k.Valid) (sh : SpriteShape) : (k.tick sh).Valid := by
  have moved := (k.tick_motion sh).1
  have pixel : (k.tick sh).resetPixel = k.resetPixel := by
    unfold Sprite.tick Sprite.advanceCounter Sprite.advancePhase
    dsimp only
    split <;> (try split) <;> (try split) <;> (try split) <;> rfl
  exact ⟨by rw [Sprite.tick_ctr]; exact Counter.count_tick_lt (by decide) h.ctr, pixel ▸ h.resetPixel, moved ▸ h.hmovedPixel⟩

/-- A sprite with the position and pixels of a valid one. -/
theorem Sprite.Valid.congr {k l : Sprite} (h : k.Valid) (ctr : l.ctr = k.ctr) (pixel : l.resetPixel = k.resetPixel)
    (moved : l.hmovedPixel = k.hmovedPixel) : l.Valid :=
  ⟨ctr ▸ h.ctr, pixel ▸ h.resetPixel, moved ▸ h.hmovedPixel⟩

/-- The counters and sprites of the TIA are in range. -/
structure Tia.InRange (t : Tia) : Prop where
  ctr : t.ctr.count < hsyncLen
  ripple : ∀ n, t.hmoveCt = some n → n ≤ 15
  sprites : ∀ s, (t.sprite s).Valid

namespace Tia.InRange

variable {t u : Tia}

theorem congr (h : t.InRange) (ctr : u.ctr = t.ctr) (ripple : u.hmoveCt = t.hmoveCt)
    (sprites : ∀ s, u.sprite s = t.sprite s) : u.InRange :=
  ⟨ctr ▸ h.ctr, ripple ▸ h.ripple, fun s => sprites s ▸ h.sprites s⟩

/-- The same sprites, with a counter and a ripple in range. -/
theorem ofSprites (h : t.InRange) (ctr : u.ctr.count < hsyncLen) (ripple : ∀ n, u.hmoveCt = some n → n ≤ 15)
    (sprites : ∀ s, u.sprite s = t.sprite s) : u.InRange :=
  ⟨ctr, ripple, fun s => sprites s ▸ h.sprites s⟩

theorem setSprite (h : t.InRange) {s : SpriteId} {k : Sprite} (hk : k.Valid) : (t.setSprite s k).InRange := by
  refine ⟨(Tia.sameLine_setSprite t s k).ctr ▸ h.ctr, ?_, fun s' => ?_⟩
  · cases s <;> exact h.ripple
  · rw [Tia.sprite_setSprite]
    split
    · exact hk
    · exact h.sprites s'

theorem foldl {α : Type} {f : Tia → α → Tia} (hf : ∀ t a, t.InRange → (f t a).InRange) (l : List α) (h : t.InRange) :
    (l.foldl f t).InRange := by
  induction l generalizing t with
  | nil => exact h
  | cons a l ih => exact ih (hf t a h)

theorem moveHmoved (h : t.InRange) (k : Nat) (s : SpriteId) : (t.moveHmoved k s).InRange :=
  h.setSprite ⟨(h.sprites s).ctr, (h.sprites s).resetPixel, Nat.mod_lt _ (by decide)⟩

theorem resetPosition (h : t.InRange) (s : SpriteId) : (t.setSprite s { t.sprite s with ctr := Counter.zero }).InRange :=
  h.setSprite ⟨(by decide : 0 < spriteLen), (h.sprites s).resetPixel, (h.sprites s).hmovedPixel⟩

theorem lockMissile (h : t.InRange) (s : SpriteId) : (t.lockMissile s).InRange := by
  unfold Tia.lockMissile
  split
  · split
    · exact h.resetPosition .m0
    · exact h
  · split
    · exact h.resetPosition .m1
    · exact h
  · exact h

theorem tickSprite (h : t.InRange) (p : Params) (s : SpriteId) : (t.tickSprite p s).InRange := by
  have ticked := h.setSprite (s := s) ((h.sprites s).tick (t.shape p s))
  unfold Tia.tickSprite
  dsimp only
  split
  · exact ticked.lockMissile s
  · exact ticked

/-! #### The stages of a tick -/

theorem clock (h : t.InRange) : t.clock.InRange :=
  h.ofSprites (Counter.count_tick_lt (by decide) h.ctr) h.ripple fun s => by cases s <;> rfl

theorem decodeLine (h : t.InRange) : t.decodeLine.InRange := by
  have line : ∀ u : Tia, u.ctr = t.ctr → u.hmoveCt = t.hmoveCt → (∀ s, u.sprite s = t.sprite s) → u.InRange :=
    fun u => h.congr
  unfold Tia.decodeLine
  split_ifs
  case pos => exact line _ rfl rfl fun s => by cases s <;> rfl
  case pos => exact line _ rfl rfl fun s => by cases s <;> rfl
  case pos => exact line _ rfl rfl fun s => by cases s <;> rfl
  case pos => exact h
  case neg => exact line _ rfl rfl fun s => by cases s <;> rfl
  case pos =>
    refine foldl (fun t s h => h.moveHmoved 8 s) spriteOrder (line { t with hblank := false } rfl rfl fun s => ?_)
    cases s <;> rfl
  case neg => exact h
  case neg => exact h

theorem rippleSprite (h : t.InRange) (p : Params) (ct : Nat) (s : SpriteId) : (t.rippleSprite p ct s).InRange := by
  have decided := h.setSprite (s := s) (k := { t.sprite s with
    moreHmove := (t.sprite s).moreHmove && (((t.sprite s).hm ^^^ 7).toNat != ct) }) ((h.sprites s).congr rfl rfl rfl)
  unfold Tia.rippleSprite
  dsimp only
  split
  · exact (decided.tickSprite p s).moveHmoved _ s
  · exact decided

theorem rippleStage (h : t.InRange) (p : Params) : (t.rippleStage p).InRange := by
  unfold Tia.rippleStage
  split
  · next ct running _ =>
    have rippled := foldl (fun t s h => h.rippleSprite p ct s) spriteOrder h
    refine rippled.ofSprites rippled.ctr (fun n hn => ?_) fun s => by cases s <;> rfl
    have bound := h.ripple ct running
    have next : (if ct = 0 then none else some (ct - 1)) = some n := hn
    split at next
    · exact absurd next nofun
    · rw [← Option.some.inj next]
      omega
  · exact h

theorem spriteStage (h : t.InRange) (p : Params) : (t.spriteStage p).InRange := by
  unfold Tia.spriteStage
  split
  · exact h
  · exact foldl (fun t s h => h.tickSprite p s) spriteOrder h

/-! #### Events and registers -/

theorem setEvents (h : t.InRange) (g : Group) (es : List Event) : (t.setEvents g es).InRange := by
  rcases g with _ | s | _
  · exact h.congr rfl rfl fun s => by cases s <;> rfl
  · exact h.setSprite ((h.sprites s).congr rfl rfl rfl)
  · exact h.congr rfl rfl fun s => by cases s <;> rfl

/-- A player's NUSIZ moves its pixels modulo 160 (R430). -/
theorem withNusiz {k : Player} (h : k.sprite.Valid) (n : BitVec 3) : (k.withNusiz n).sprite.Valid := by
  refine ⟨h.ctr, ?_, ?_⟩
  · show (if k.nusiz = n then k.sprite.resetPixel else _) < clksVisible
    split
    · exact h.resetPixel
    · exact Nat.mod_lt _ (by decide)
  · show (if k.nusiz = n then k.sprite.hmovedPixel else _) < clksVisible
    split
    · exact h.hmovedPixel
    · exact Nat.mod_lt _ (by decide)

theorem applyRegister (h : t.InRange) (r : TiaReg) (v : Byte) : (t.applyRegister r v).InRange := by
  have hm : ∀ k : Sprite, k.Valid → (k.withHm v).Valid := fun k hk => hk.congr rfl rfl rfl
  cases r
  case rsync => exact h.ofSprites (by decide : 0 < hsyncLen) h.ripple fun s => by cases s <;> rfl
  case nusiz0 =>
    refine (h.setSprite (s := .p0) (withNusiz (h.sprites .p0) (v.extractLsb' 0 3))).congr rfl rfl fun s => ?_
    cases s <;> rfl
  case nusiz1 =>
    refine (h.setSprite (s := .p1) (withNusiz (h.sprites .p1) (v.extractLsb' 0 3))).congr rfl rfl fun s => ?_
    cases s <;> rfl
  case hmp0 => exact h.setSprite (s := .p0) (hm _ (h.sprites .p0))
  case hmp1 => exact h.setSprite (s := .p1) (hm _ (h.sprites .p1))
  case hmm0 => exact h.setSprite (s := .m0) (hm _ (h.sprites .m0))
  case hmm1 => exact h.setSprite (s := .m1) (hm _ (h.sprites .m1))
  case hmbl => exact h.setSprite (s := .bl) (hm _ (h.sprites .bl))
  case hmove =>
    have moving := foldl (f := fun t s => t.setSprite s { t.sprite s with moreHmove := true })
      (fun t s h => h.setSprite ((h.sprites s).congr rfl rfl rfl)) spriteOrder h
    refine moving.ofSprites moving.ctr (fun n hn => ?_) fun s => by cases s <;> rfl
    rw [← Option.some.inj hn]
  case hmclr =>
    exact foldl (f := fun t s => t.setSprite s { t.sprite s with hm := 0 })
      (fun t s h => h.setSprite ((h.sprites s).congr rfl rfl rfl)) spriteOrder h
  all_goals exact h.congr rfl rfl fun s => by cases s <;> rfl

theorem applyPayload (h : t.InRange) (pl : Payload) : (t.applyPayload pl).InRange := by
  cases pl with
  | register r v => exact h.applyRegister r v
  | resetPos s => exact h.resetPosition s

theorem tickGroup (h : t.InRange) (g : Group) : (t.tickGroup g).InRange :=
  foldl (fun _ e h => h.applyPayload e.payload) _ (h.setEvents g _)

theorem emit (h : t.InRange) : t.emit.InRange := h.congr rfl rfl t.sprite_emit

theorem tickAll (h : t.InRange) : t.tickAll.InRange := foldl (fun _ g h => h.tickGroup g) groupOrder h

theorem tick (h : t.InRange) (p : Params) : (t.tick p).InRange := by
  unfold Tia.tick
  exact ((h.clock.decodeLine.rippleStage p).spriteStage p).emit.tickAll

end Tia.InRange

/-! ### Validity -/

theorem Tia.Valid.inRange {t : Tia} (h : t.Valid) : t.InRange := ⟨h.ctr, h.ripple, h.sprites⟩

theorem Tia.InRange.valid {t : Tia} (h : t.InRange) (pending : ∀ g, ∀ e ∈ t.eventsOf g, 1 ≤ e.remaining)
    (capacity : t.liveEvents ≤ schedCapacity) : t.Valid :=
  ⟨h.ctr, h.ripple, h.sprites, pending, capacity⟩

/-- The same live events are as valid. -/
theorem Tia.Valid.of_sameEvents {t u : Tia} (h : t.Valid) (range : u.InRange) (same : t.SameEvents u) : u.Valid :=
  range.valid (fun g e he => h.pending g e (same g ▸ he)) (same.liveEvents.le.trans h.capacity)

theorem Tia.Valid.tick {t : Tia} (h : t.Valid) (p : Params) : (t.tick p).Valid :=
  (h.inRange.tick p).valid (fun g e he => countDown_live _ e (t.eventsOf_tick p g ▸ he))
    ((t.liveEvents_tick p).trans h.capacity)

theorem Tia.Valid.ticks {t : Tia} (h : t.Valid) (p : Params) (n : Nat) : (t.ticks p n).Valid := by
  induction n generalizing t with
  | zero => exact h
  | succ n ih => exact ih (h.tick p)

/-- A scheduled event acts at once, or joins its group while there is room (R406, R410). -/
theorem Tia.Valid.schedule {t u : Tia} (h : t.Valid) {g : Group} {n : Nat} {pl : Payload}
    (hu : Tia.schedule g n pl t = .ok u) : u.Valid := by
  rcases Nat.eq_zero_or_pos n with rfl | pos
  · rw [Tia.schedule_at_once] at hu
    rw [← Except.ok.inj hu]
    exact h.of_sameEvents (h.inRange.applyPayload pl) (t.sameEvents_applyPayload pl)
  · rcases Nat.lt_or_ge t.liveEvents 64 with room | full
    · obtain ⟨w, hw, capacity⟩ := Tia.schedule_ok room g n pl
      obtain rfl : w = u := Except.ok.inj (hw.symm.trans hu)
      have joined : w = t.setEvents g (t.eventsOf g ++ [⟨n, pl⟩]) :=
        Except.ok.inj (hu.symm.trans (Tia.schedule_joins pos room g pl))
      refine InRange.valid (joined ▸ h.inRange.setEvents g _) (fun k e he => ?_) (capacity.trans room)
      rw [joined, Tia.eventsOf_setEvents] at he
      split at he
      · rcases List.mem_append.1 he with old | new
        · exact h.pending g e old
        · rw [List.mem_singleton.1 new]
          exact pos
      · exact h.pending k e he
    · rw [Tia.schedule_full pos full] at hu
      exact absurd hu nofun

theorem Tia.Valid.strobeReset {t u : Tia} (h : t.Valid) {p : Params} {s : SpriteId} (hu : t.strobeReset p s = .ok u) :
    u.Valid := by
  have pixel : t.resetPixelAt p s < clksVisible := Nat.mod_lt _ (by decide)
  have strobed : (t.strobed p s).Valid :=
    h.of_sameEvents (h.inRange.setSprite ⟨(h.sprites s).ctr, pixel, pixel⟩) (Tia.sameEvents_strobed p s t)
  refine Tia.Valid.schedule ?_ hu
  exact strobed.of_sameEvents (strobed.inRange.congr rfl rfl fun s => by cases s <;> rfl)
    fun g => by cases g <;> rfl

/-- A register write keeps the TIA valid (R450). -/
theorem Tia.Valid.write {t u : Tia} (h : t.Valid) {p : Params} {n : BitVec 6} {v : Byte} (hu : t.write p n v = .ok u) :
    u.Valid := by
  unfold Tia.write at hu
  split at hu
  · unfold Tia.writeReg at hu
    split at hu
    · exact h.strobeReset hu
    · exact h.schedule hu
  · rw [← Except.ok.inj hu]
    exact h

end Sys2Proof.Machine
end

section
/-! PROOFS. What every bus cycle keeps, on any cartridge: the 6507 but for its count and latch, and the invariant (R350, R407,
R480, R507, R622 to R624, R720). -/

namespace Sys2Proof.Machine

/-! ### The invariant under changes -/

section Changes

variable {s t : State}

/-- A change outside what the invariant speaks of. -/
theorem State.Inv.congr (h : s.Inv) (ram : t.riot.ram = s.riot.ram) (mapper : t.mapper = s.mapper) (tia : t.tia = s.tia)
    (arm : t.arm = s.arm) (shim : t.shim = s.shim) : t.Inv where
  ram := ram ▸ h.ram
  rom := mapper ▸ h.rom
  cartRam := mapper ▸ h.cartRam
  armImage := mapper ▸ h.armImage
  progMem := arm ▸ h.progMem
  varMem := arm ▸ h.varMem
  tia := tia ▸ h.tia
  pushed := shim ▸ h.pushed
  stuff := shim ▸ h.stuff
  pipeline := arm ▸ h.pipeline

theorem State.Inv.mapCpu (h : s.Inv) (f : Cpu → Cpu) : (s.mapCpu f).Inv := h.congr rfl rfl rfl rfl rfl

/-- A valid TIA in place of another. -/
theorem State.Inv.withTia (h : s.Inv) {u : Tia} (hu : u.Valid) : ({ s with tia := u } : State).Inv :=
  { h with tia := hu }

/-- What a `Run()` keeps, with the pipeline, keeps the invariant. -/
theorem RunKeeps.inv (k : RunKeeps s t) (h : s.Inv) (piped : t.Piped) : t.Inv := by
  obtain ⟨f, shim, some⟩ := k.shim
  have outside := k.outside
  simp only [Prod.mk.injEq] at outside
  obtain ⟨-, -, -, riot, tia⟩ := outside
  have mapper := k.mapper
  exact
    { ram := riot ▸ h.ram
      rom := mapper ▸ h.rom
      cartRam := mapper ▸ h.cartRam
      armImage := mapper ▸ h.armImage
      progMem := k.progMem h.progMem
      varMem := k.varMem h.varMem
      tia := tia ▸ h.tia
      pushed := fun on => by
        rw [shim] at on ⊢
        exact some (h.pushed on)
      stuff := fun on => by
        rw [shim] at on ⊢
        exact some (h.stuff on)
      pipeline := fun _ => piped }

end Changes

/-! ### Parts of a driver step -/

/-- A part of a driver step: the 6507 is untouched, and the invariant kept. -/
structure Carried (s t : State) : Prop where
  cpu : t.cpu = s.cpu
  inv : s.Inv → t.Inv

namespace Carried

variable {s t u : State}

theorem refl (s : State) : Carried s s := ⟨rfl, id⟩

theorem trans (h : Carried s t) (k : Carried t u) : Carried s u := ⟨k.cpu.trans h.cpu, k.inv ∘ h.inv⟩

end Carried

section Devices

variable (s : State)

theorem State.record_carried (e : LogEntry) : Carried s (s.record e) := ⟨rfl, fun h => h.congr rfl rfl rfl rfl rfl⟩

theorem State.latchBus_carried (a : Addr) (v : Byte) (isRead : Bool) : Carried s (s.latchBus a v isRead) :=
  ⟨rfl, fun h => h.congr rfl rfl rfl rfl rfl⟩

theorem State.riotStep_carried : Carried s s.riotStep := ⟨rfl, fun h => h.congr rfl rfl rfl rfl rfl⟩

/-- What a mapper's effect does to the ARM: its memories stay canonical, registers and pipeline stay. -/
theorem State.applyEffect_carried (e : MapperEffect) : Carried s (s.applyEffect e) := by
  have arm : ∃ v top irq, (s.applyEffect e).arm =
      { s.arm with varMem := v, variableMemTop := top, interruptReq := irq } ∧ (s.arm.varMem.wf = true → v.wf = true) := by
    unfold State.applyEffect
    dsimp only
    split
    · exact ⟨_, _, _, rfl, fun wf => Memory.wf_writes wf _⟩
    · exact ⟨_, _, _, rfl, id⟩
  have shim : (s.applyEffect e).shim.running = s.shim.running ∧ (s.applyEffect e).shim.pushed = s.shim.pushed ∧
      (s.applyEffect e).shim.busStuff = s.shim.busStuff := by
    unfold State.applyEffect
    dsimp only
    split <;> exact ⟨rfl, rfl, rfl⟩
  obtain ⟨v, top, irq, arm, wf⟩ := arm
  obtain ⟨running, pushed, stuff⟩ := shim
  refine ⟨rfl, fun h => ?_⟩
  exact
    { ram := h.ram
      rom := h.rom
      cartRam := Memory.wf_writes h.cartRam _
      armImage := h.armImage
      progMem := by rw [arm]; exact h.progMem
      varMem := by rw [arm]; exact wf h.varMem
      tia := h.tia
      pushed := by rw [running, pushed]; exact h.pushed
      stuff := by rw [running, stuff]; exact h.stuff
      pipeline := by rw [arm]; exact h.pipeline }

theorem State.mapperListen_carried (a : BusAddr) (v : Byte) : Carried s (s.mapperListen a v) := by
  unfold State.mapperListen
  split
  · exact .refl s
  · exact s.applyEffect_carried _

theorem State.mapperRead_carried (a : BusAddr) : Carried s (s.mapperRead a).2 := by
  unfold State.mapperRead
  split
  · exact .refl s
  · split
    · exact .refl s
    · dsimp only
      split
      · exact s.applyEffect_carried _
      · exact (s.applyEffect_carried _).trans (State.record_carried _ _)

theorem State.mapperWrite_carried (a : BusAddr) (v : Byte) : Carried s (s.mapperWrite a v) := by
  unfold State.mapperWrite
  split
  · exact .refl s
  · split
    · exact s.applyEffect_carried _
    · exact s.record_carried _

theorem State.riotRead_carried (a : BusAddr) : Carried s (s.riotRead a).2 := by
  unfold State.riotRead
  dsimp only
  split <;> exact ⟨rfl, fun h => h.congr rfl rfl rfl rfl rfl⟩

theorem State.riotWrite_carried (a : BusAddr) (v : Byte) : Carried s (s.riotWrite a v) := by
  unfold State.riotWrite
  dsimp only
  split <;> exact ⟨rfl, fun h => h.congr rfl rfl rfl rfl rfl⟩

theorem State.deviceRead_carried (a : BusAddr) : Carried s (s.deviceRead a).2 := by
  unfold State.deviceRead
  split
  · exact .refl s
  · exact .refl s
  · exact s.riotRead_carried a
  · exact s.mapperRead_carried a

theorem State.tiaTicks_carried (n : Nat) : Carried s (s.tiaTicks n) :=
  ⟨rfl, fun h => h.withTia (h.tia.ticks s.params n)⟩

end Devices

variable {s t : State}

theorem State.tiaWrite_carried {n : BitVec 6} {v : Byte} {w : Tia} (hw : s.tia.write s.params n v = .ok w) :
    Carried s { s with tia := w } :=
  ⟨rfl, fun h => h.withTia (h.tia.write hw)⟩

theorem State.deviceWrite_carried {a : BusAddr} {v : Byte} {x : Option HeldWrite × State}
    (h : s.deviceWrite a v = .ok x) : Carried s x.2 := by
  unfold State.deviceWrite at h
  split at h
  · split at h
    · cases hw : s.tia.write s.params (a.setWidth 6) v with
      | error e => rw [hw] at h; exact absurd h nofun
      | ok w =>
        rw [hw] at h
        rw [← Except.ok.inj h]
        exact State.tiaWrite_carried hw
    · rw [← Except.ok.inj h]
      exact .refl s
  · rw [← Except.ok.inj h]
    exact ⟨rfl, fun inv => { inv with ram := Memory.wf_write inv.ram _ _ }⟩
  · rw [← Except.ok.inj h]
    exact s.riotWrite_carried a v
  · rw [← Except.ok.inj h]
    exact s.mapperWrite_carried a v

/-! ### The shim -/

/-- A shim in which a function runs keeps R624 whatever else it holds. -/
theorem State.Inv.withShim (h : s.Inv) {sh : Shim} (running : sh.running.fn.isSome = true) :
    ({ s with shim := sh } : State).Inv :=
  { h with pushed := fun _ => running, stuff := fun _ => running }

/-- `endFunction()` re-establishes the pipeline when the ARM goes on (R480, R622). -/
theorem State.endFunction_carried (s : State) (result : Option Word) :
    Carried s (s.endFunction result) := by
  unfold State.endFunction
  split
  · next pushed => exact ⟨rfl, fun h => { h with pushed := nofun, stuff := fun _ => pushed }⟩
  · next pushed =>
    refine ⟨by cases result <;> rfl, fun h => ?_⟩
    have piped : ∀ (a : Arm) (x : Word), (a.atPC x).reg 15 = (a.atPC x).executingPC + 2 := fun a x =>
      (Arm.reg_setReg 15 15 (x + 2) a).trans (if_pos rfl)
    exact
      { ram := h.ram
        rom := h.rom
        cartRam := h.cartRam
        armImage := h.armImage
        progMem := by cases result <;> exact h.progMem
        varMem := by cases result <;> exact h.varMem
        tia := h.tia
        pushed := fun on => absurd on pushed
        stuff := nofun
        pipeline := fun _ => piped _ _ }

theorem State.pushFunction_carried {g : FnTag} {args : Vector Word 4} (h : s.pushFunction g args = .ok t) :
    Carried s t := by
  unfold State.pushFunction at h
  split at h
  · exact absurd h nofun
  · split at h
    · exact absurd h nofun
    · rw [← Except.ok.inj h]
      exact ⟨rfl, fun inv => inv.withShim rfl⟩

theorem State.shimAdvance_carried {k : BusCycle} {st : ShimStep} (running : s.shim.running.fn.isSome = true)
    (h : State.shimAdvance k st s = .ok t) : Carried s t := by
  unfold State.shimAdvance at h
  split at h
  · rw [← Except.ok.inj h]
    exact ⟨rfl, fun inv => inv.withShim running⟩
  · have moved : Carried s { s with shim := s.shim.moveOn } := ⟨rfl, fun inv => inv.withShim running⟩
    exact moved.trans (State.pushFunction_carried h)
  · rw [← Except.ok.inj h]
    exact State.endFunction_carried _ _

theorem State.running_of_shimStep {st : ShimStep} (h : s.shimStep = some st) : s.shim.running.fn.isSome = true := by
  unfold State.shimStep at h
  split at h
  · split at h
    · exact absurd h nofun
    · next f hf => rw [hf]; rfl
  · exact absurd h nofun

/-- A shim tick (R625). -/
theorem State.shimTick_carried {k : BusCycle} {x : Option Byte × State} (h : s.shimTick k = .ok x) : Carried s x.2 := by
  cases hst : s.shimStep with
  | none =>
    have idle : s.shimTick k = .ok (none, s) := by simp only [State.shimTick, hst]
    rw [← Except.ok.inj (idle.symm.trans h)]
    exact .refl s
  | some st =>
    cases ready : s.shim.ready k st.act with
    | false =>
      rw [← Except.ok.inj ((State.shimTick_waits hst ready).symm.trans h)]
      exact .refl s
    | true =>
      have running : (s.shim.perform k st).running.fn.isSome = true := by
        rw [(s.shim.perform_frame k st).1]
        exact State.running_of_shimStep hst
      have performed : Carried s { s with shim := s.shim.perform k st } := ⟨rfl, fun inv => inv.withShim running⟩
      cases ha : State.shimAdvance k st { s with shim := s.shim.perform k st } with
      | error e => exact absurd ((State.shimTick_stops hst ready ha).symm.trans h) nofun
      | ok t =>
        rw [← Except.ok.inj ((State.shimTick_goes hst ready ha).symm.trans h)]
        exact performed.trans (State.shimAdvance_carried running ha)

/-! ### Accesses -/

theorem State.busRead_carried {a : Addr} {x : Byte × State} (h : s.busRead a = .ok x) : Carried s x.2 := by
  cases ht : s.shimTick (.read (busAddr a)) with
  | error e =>
    simp only [State.busRead, ht] at h
    exact absurd h nofun
  | ok y =>
    obtain ⟨drive, t⟩ := y
    have ticked := State.shimTick_carried ht
    simp only [State.busRead, ht] at h
    rw [← Except.ok.inj h]
    refine ticked.trans (Carried.trans ?_ (State.latchBus_carried _ _ _ _))
    refine Carried.trans ?_ (State.mapperListen_carried _ _ _)
    split
    · exact .refl t
    · exact t.deviceRead_carried _

theorem State.busWrite_carried {a : Addr} {v : Byte} {x : Option HeldWrite × State} (h : s.busWrite a v = .ok x) :
    Carried s x.2 := by
  cases ht : s.shimTick (.write (busAddr a) v) with
  | error e =>
    simp only [State.busWrite, ht] at h
    exact absurd h nofun
  | ok y =>
    obtain ⟨drive, t⟩ := y
    cases hd : t.deviceWrite (busAddr a) (drive.getD v) with
    | error e =>
      simp only [State.busWrite, ht, hd] at h
      exact absurd h nofun
    | ok z =>
      simp only [State.busWrite, ht, hd] at h
      rw [← Except.ok.inj h]
      exact (((State.shimTick_carried ht).trans (State.deviceWrite_carried hd)).trans
        (State.mapperListen_carried _ _ _)).trans (State.latchBus_carried _ _ _ _)

/-! ### The rest of a driver step -/

theorem State.phase2_carried {held : Option HeldWrite} (h : s.phase2 held = .ok t) : Carried s t := by
  unfold State.phase2 at h
  split at h
  · rw [← Except.ok.inj h]
    exact s.tiaTicks_carried 3
  · next w =>
    dsimp only at h
    cases hw : (s.tiaTicks s.params.tiaWritePhase.val).tia.write (s.tiaTicks s.params.tiaWritePhase.val).params w.1 w.2 with
    | error e => rw [hw] at h; exact absurd h nofun
    | ok u =>
      rw [hw] at h
      rw [← Except.ok.inj h]
      exact ((s.tiaTicks_carried _).trans (State.tiaWrite_carried hw)).trans (State.tiaTicks_carried _ _)

/-- A `Run()` (R471, R507). -/
theorem State.armRun_carried (h : s.armRun = .ok t) : Carried s t := by
  obtain ⟨u, kept, ht, -, piped⟩ := State.armRun_keeps h
  rw [ht]
  have cpu := kept.outside
  simp only [Prod.mk.injEq] at cpu
  refine ⟨cpu.2.1, fun inv => ?_⟩
  have after := kept.inv inv (piped inv.pipeline)
  exact { after with }

theorem State.mapperStep_carried (h : s.mapperStep = .ok t) : Carried s t := by
  have paid : ∀ on : Bool, Carried s { s with mapper := { s.mapper.pay s.params with triggered := on } } :=
    fun _ => ⟨rfl, fun inv => { inv with }⟩
  unfold State.mapperStep at h
  split at h
  · dsimp only at h
    split at h
    · exact (paid false).trans (State.armRun_carried h)
    · rw [← Except.ok.inj h]
      exact paid s.mapper.triggered
  · rw [← Except.ok.inj h]
    exact .refl s

theorem State.driverTail_carried {held : Option HeldWrite} (h : s.driverTail held = .ok t) : Carried s t := by
  unfold State.driverTail at h
  cases hp : s.riotStep.phase2 held with
  | error e => rw [hp] at h; exact absurd h nofun
  | ok u =>
    rw [hp] at h
    exact (s.riotStep_carried.trans (State.phase2_carried hp)).trans (State.mapperStep_carried h)

theorem State.waitReady_carried (fuel : Nat) (h : s.waitReady fuel = .ok t) : Carried s t := by
  induction fuel generalizing s with
  | zero =>
    rw [← Except.ok.inj h]
    exact .refl s
  | succ fuel ih =>
    rw [State.waitReady] at h
    split at h
    · cases hd : s.driverTail none with
      | error e => rw [hd] at h; exact absurd h nofun
      | ok u =>
        rw [hd] at h
        exact (State.driverTail_carried hd).trans (ih h)
    · rw [← Except.ok.inj h]
      exact .refl s

/-! ### Cycles of the 6507 -/

/-- `t` is `s` after `n` bus cycles. -/
structure Cycled (n : Nat) (s t : State) : Prop where
  count : t.cpu.t = s.cpu.t + n
  fix : t.cpu.fix = s.cpu.fix
  inv : s.Inv → t.Inv

namespace Cycled

variable {m n : Nat} {u : State}

theorem refl (s : State) : Cycled 0 s s := ⟨rfl, rfl, id⟩

theorem trans (h : Cycled m s t) (k : Cycled n t u) : Cycled (m + n) s u :=
  ⟨by rw [k.count, h.count, Nat.add_assoc], k.fix.trans h.fix, k.inv ∘ h.inv⟩

theorem mapCpu (h : Cycled n s t) {f : Cpu → Cpu} (count : (f t.cpu).t = t.cpu.t) (fix : (f t.cpu).fix = t.cpu.fix) :
    Cycled n s (t.mapCpu f) :=
  ⟨count.trans h.count, fix.trans h.fix, fun inv => (h.inv inv).mapCpu f⟩

end Cycled

/-- The access is counted when its driver step is over (R350). -/
theorem Carried.counted (h : Carried s t) {f : Cpu → Cpu} (count : (f t.cpu).t = t.cpu.t + 1)
    (fix : (f t.cpu).fix = t.cpu.fix) : Cycled 1 s (t.mapCpu f) :=
  ⟨count.trans (by rw [h.cpu]), fix.trans (by rw [h.cpu]), fun inv => (h.inv inv).mapCpu f⟩

/-- An answer of one operation after another. -/
theorem Except.ok_of_bind {ε α β : Type} {x : Except ε α} {f : α → Except ε β} {b : β} (h : (x >>= f) = .ok b) :
    ∃ a, x = .ok a ∧ f a = .ok b := by
  cases x with
  | error e => exact absurd h nofun
  | ok a => exact ⟨a, rfl, h⟩

theorem cycleRead_cycled {a : Addr} {x : Byte × State} (h : cycleRead a s = .ok x) : Cycled 1 s x.2 := by
  obtain ⟨u, hu, h⟩ := Except.ok_of_bind h
  obtain ⟨y, hy, h⟩ := Except.ok_of_bind h
  obtain ⟨w, hw, h⟩ := Except.ok_of_bind h
  have carried := ((State.waitReady_carried _ hu).trans (State.busRead_carried hy)).trans (State.driverTail_carried hw)
  rw [← Except.ok.inj h]
  exact carried.counted (f := fun k => { k.advanceT with dl := y.1 }) rfl rfl

theorem cycleWrite_cycled {a : Addr} {v : Byte} (h : cycleWrite a v s = .ok t) : Cycled 1 s t := by
  obtain ⟨y, hy, h⟩ := Except.ok_of_bind h
  obtain ⟨w, hw, h⟩ := Except.ok_of_bind h
  have carried := (State.busWrite_carried hy).trans (State.driverTail_carried hw)
  rw [← Except.ok.inj h]
  exact carried.counted rfl rfl

end Sys2Proof.Machine
end

section
/-! PROOFS. The operations of the 6507: the bus cycles each makes, and the invariant (R350 to R372, R702). -/

namespace Sys2Proof.Machine

variable {s t : State}

/-! ### Named operations -/

theorem dummyRead_cycled {a : Addr} (h : dummyRead a s = .ok t) : Cycled 1 s t := by
  obtain ⟨x, hx, h⟩ := Except.ok_of_bind h
  rw [← Except.ok.inj h]
  exact cycleRead_cycled hx

theorem push_cycled {v : Byte} (h : push v s = .ok t) : Cycled 1 s t := by
  obtain ⟨x, hx, h⟩ := Except.ok_of_bind h
  rw [← Except.ok.inj h]
  exact (cycleWrite_cycled hx).mapCpu rfl rfl

theorem pull_cycled {x : Byte × State} (h : pull s = .ok x) : Cycled 1 s x.2 :=
  ((Cycled.refl s).mapCpu (f := Cpu.incSP) rfl rfl).trans (cycleRead_cycled h)

theorem fetchByte_cycled {x : Byte × State} (h : fetchByte s = .ok x) : Cycled 1 s x.2 := by
  obtain ⟨y, hy, h⟩ := Except.ok_of_bind h
  rw [← Except.ok.inj h]
  exact (cycleRead_cycled hy).mapCpu (f := Cpu.incPC) rfl rfl

theorem loadPC_cycled {lo hi : Addr} (h : loadPC lo hi s = .ok t) : Cycled 2 s t := by
  obtain ⟨x, hx, h⟩ := Except.ok_of_bind h
  obtain ⟨y, hy, h⟩ := Except.ok_of_bind h
  rw [← Except.ok.inj h]
  exact ((cycleRead_cycled hx).trans (cycleRead_cycled hy)).mapCpu rfl rfl

/-- BRK after its opcode (R370). -/
theorem takeBreak_cycled (h : takeBreak s = .ok t) : Cycled 6 s t := by
  obtain ⟨x, hx, h⟩ := Except.ok_of_bind h
  obtain ⟨u, hu, h⟩ := Except.ok_of_bind h
  obtain ⟨v, hv, h⟩ := Except.ok_of_bind h
  obtain ⟨w, hw, h⟩ := Except.ok_of_bind h
  have pushed := (((fetchByte_cycled hx).trans (push_cycled hu)).trans (push_cycled hv)).trans (push_cycled hw)
  exact (pushed.mapCpu (f := fun k => { k with i := true }) rfl rfl).trans (loadPC_cycled h)

/-- RTI after its opcode (R369). -/
theorem returnFromTrap_cycled (h : returnFromTrap s = .ok t) : Cycled 5 s t := by
  obtain ⟨u, hu, h⟩ := Except.ok_of_bind h
  obtain ⟨v, hv, h⟩ := Except.ok_of_bind h
  obtain ⟨p, hp, h⟩ := Except.ok_of_bind h
  obtain ⟨x, hx, h⟩ := Except.ok_of_bind h
  obtain ⟨y, hy, h⟩ := Except.ok_of_bind h
  rw [← Except.ok.inj h]
  have status := (((dummyRead_cycled hu).trans (dummyRead_cycled hv)).trans (pull_cycled hp)).mapCpu
    (f := Cpu.withStatus p.1) rfl rfl
  exact ((status.trans (pull_cycled hx)).trans (pull_cycled hy)).mapCpu rfl rfl

theorem jumpSubroutine_cycled {lo : Byte} (h : jumpSubroutine lo s = .ok t) : Cycled 4 s t := by
  obtain ⟨u, hu, h⟩ := Except.ok_of_bind h
  obtain ⟨v, hv, h⟩ := Except.ok_of_bind h
  obtain ⟨w, hw, h⟩ := Except.ok_of_bind h
  obtain ⟨x, hx, h⟩ := Except.ok_of_bind h
  rw [← Except.ok.inj h]
  exact ((((dummyRead_cycled hu).trans (push_cycled hv)).trans (push_cycled hw)).trans (cycleRead_cycled hx)).mapCpu
    rfl rfl

theorem returnSubroutine_cycled (h : returnSubroutine s = .ok t) : Cycled 5 s t := by
  obtain ⟨u, hu, h⟩ := Except.ok_of_bind h
  obtain ⟨v, hv, h⟩ := Except.ok_of_bind h
  obtain ⟨x, hx, h⟩ := Except.ok_of_bind h
  obtain ⟨y, hy, h⟩ := Except.ok_of_bind h
  obtain ⟨w, hw, h⟩ := Except.ok_of_bind h
  rw [← Except.ok.inj h]
  have pulled := ((((dummyRead_cycled hu).trans (dummyRead_cycled hv)).trans (pull_cycled hx)).trans
    (pull_cycled hy)).mapCpu (f := Cpu.setPC (y.1 ++ x.1)) rfl rfl
  exact (pulled.trans (dummyRead_cycled hw)).mapCpu rfl rfl

theorem pushRegister_cycled {val : Cpu → Byte} (h : pushRegister val s = .ok t) : Cycled 2 s t := by
  obtain ⟨u, hu, h⟩ := Except.ok_of_bind h
  exact (dummyRead_cycled hu).trans (push_cycled h)

/-- An operation on registers keeps the cycle count and `fix`. -/
structure Cpu.Steady (op : Cpu → Cpu) : Prop where
  count : ∀ k, (op k).t = k.t
  fix : ∀ k, (op k).fix = k.fix

theorem Cycled.steady {n : Nat} (h : Cycled n s t) {op : Cpu → Cpu} (steady : Cpu.Steady op) : Cycled n s (t.mapCpu op) :=
  h.mapCpu (steady.count _) (steady.fix _)

theorem pullInto_cycled {op : Byte → Cpu → Cpu} (steady : ∀ m, Cpu.Steady (op m)) (h : pullInto op s = .ok t) :
    Cycled 3 s t := by
  obtain ⟨u, hu, h⟩ := Except.ok_of_bind h
  obtain ⟨v, hv, h⟩ := Except.ok_of_bind h
  obtain ⟨x, hx, h⟩ := Except.ok_of_bind h
  rw [← Except.ok.inj h]
  exact (((dummyRead_cycled hu).trans (dummyRead_cycled hv)).trans (pull_cycled hx)).steady (steady _)

theorem implied_cycled {op : Cpu → Cpu} (steady : Cpu.Steady op) (h : implied op s = .ok t) : Cycled 1 s t := by
  obtain ⟨u, hu, h⟩ := Except.ok_of_bind h
  rw [← Except.ok.inj h]
  exact (dummyRead_cycled hu).steady steady

/-- A branch: nothing, one cycle, or two where the page changes (R366). -/
theorem branch_cycled {taken : Cpu → Bool} {off : Byte} (h : branch taken off s = .ok t) :
    Cycled (if taken s.cpu then (if t.cpu.pc.extractLsb' 8 8 = s.cpu.pc.extractLsb' 8 8 then 1 else 2) else 0) s t := by
  unfold branch at h
  split at h
  · obtain ⟨u, hu, h⟩ := Except.ok_of_bind h
    obtain ⟨v, hv, h⟩ := Except.ok_of_bind h
    rw [← Except.ok.inj h, if_pos ‹_›]
    have first := dummyRead_cycled hu
    show Cycled (if (branchTo s.cpu.pc off).extractLsb' 8 8 = s.cpu.pc.extractLsb' 8 8 then 1 else 2) s _
    split at hv
    · rw [if_pos ‹_›, ← Except.ok.inj hv]
      exact first.mapCpu rfl rfl
    · rw [if_neg ‹_›]
      exact (first.trans (dummyRead_cycled hv)).mapCpu rfl rfl
  · rw [← Except.ok.inj h, if_neg ‹_›]
    exact .refl s

/-! ### Addressing modes -/

/-- `t` is `s` after `n` bus cycles, and one more where `crosses` says so and a page was crossed (R357). -/
structure Crossed (n : Nat) (crosses : Bool) (s t : State) : Prop where
  count : t.cpu.t = s.cpu.t + n + (if crosses = true ∧ t.cpu.fix = true then 1 else 0)
  inv : s.Inv → t.Inv

theorem Cycled.crossed {n : Nat} (h : Cycled n s t) : Crossed n false s t :=
  ⟨h.count.trans (by rw [if_neg (fun f => Bool.false_ne_true f.1)]; rfl), h.inv⟩

theorem Crossed.trans {m n : Nat} {crosses : Bool} {u : State} (h : Crossed m crosses s t) (k : Cycled n t u) :
    Crossed (m + n) crosses s u :=
  ⟨by rw [k.count, h.count, k.fix]; omega, k.inv ∘ h.inv⟩

theorem Cycled.thenCrossed {m n : Nat} {crosses : Bool} {u : State} (h : Cycled m s t) (k : Crossed n crosses t u) :
    Crossed (m + n) crosses s u :=
  ⟨by rw [k.count, h.count]; omega, k.inv ∘ h.inv⟩

/-- The latches of an address form no cycle. -/
theorem Cycled.deliver {n : Nat} (h : Cycled n s t) (a : Addr) (crossed : Bool) :
    Crossed n false s (deliver a crossed t).2 :=
  ⟨h.count.trans (by rw [if_neg (fun f => Bool.false_ne_true f.1)]; rfl), fun inv => (h.inv inv).mapCpu _⟩

theorem eaZpIndexed_crossed {b idx : Byte} {e : Addr × State} (h : eaZpIndexed b idx s = .ok e) :
    Crossed 1 false s e.2 := by
  obtain ⟨u, hu, h⟩ := Except.ok_of_bind h
  rw [← Except.ok.inj h]
  exact (dummyRead_cycled hu).deliver _ _

theorem eaIndexedFixed_crossed {lo hi idx : Byte} {e : Addr × State} (h : eaIndexedFixed lo hi idx s = .ok e) :
    Crossed 1 false s e.2 := by
  obtain ⟨u, hu, h⟩ := Except.ok_of_bind h
  rw [← Except.ok.inj h]
  exact (dummyRead_cycled hu).deliver _ _

/-- The extra cycle is the one whose address was not corrected yet. -/
theorem eaIndexedRead_crossed {lo hi idx : Byte} {e : Addr × State} (h : eaIndexedRead lo hi idx s = .ok e) :
    Crossed 0 true s e.2 := by
  unfold eaIndexedRead at h
  split at h
  · obtain ⟨u, hu, h⟩ := Except.ok_of_bind h
    rw [← Except.ok.inj h]
    exact ⟨(dummyRead_cycled hu).count, fun inv => ((dummyRead_cycled hu).inv inv).mapCpu _⟩
  · rw [← Except.ok.inj h]
    exact ⟨rfl, fun inv => inv.mapCpu _⟩

theorem readPointer_cycled {p : Byte} {q : Byte × Byte × State} (h : readPointer p s = .ok q) : Cycled 2 s q.2.2 := by
  obtain ⟨x, hx, h⟩ := Except.ok_of_bind h
  obtain ⟨y, hy, h⟩ := Except.ok_of_bind h
  rw [← Except.ok.inj h]
  exact (((Cycled.refl s).mapCpu (f := Cpu.latchBase p) rfl rfl).trans (cycleRead_cycled hx)).trans (cycleRead_cycled hy)

/-- The addressing modes, with the cycles they spend and whether a crossed page adds one (R355 to R363). -/
inductive Mode : Ea → Nat → Bool → Prop
  | zp (b : Byte) : Mode (eaZp b) 0 false
  | zpx (b : Byte) : Mode (eaZpx b) 1 false
  | zpy (b : Byte) : Mode (eaZpy b) 1 false
  | abs (lo hi : Byte) : Mode (eaAbs lo hi) 0 false
  | abxRead (lo hi : Byte) : Mode (eaAbxRead lo hi) 0 true
  | abyRead (lo hi : Byte) : Mode (eaAbyRead lo hi) 0 true
  | abxFixed (lo hi : Byte) : Mode (eaAbxFixed lo hi) 1 false
  | abyFixed (lo hi : Byte) : Mode (eaAbyFixed lo hi) 1 false
  | izx (b : Byte) : Mode (eaIzx b) 3 false
  | izyRead (b : Byte) : Mode (eaIzyRead b) 2 true
  | izyFixed (b : Byte) : Mode (eaIzyFixed b) 3 false

theorem Mode.crossed {ea : Ea} {n : Nat} {crosses : Bool} (m : Mode ea n crosses) {e : Addr × State}
    (h : ea s = .ok e) : Crossed n crosses s e.2 := by
  cases m with
  | zp | abs =>
    rw [← Except.ok.inj h]
    exact (Cycled.refl s).deliver _ _
  | zpx | zpy => exact eaZpIndexed_crossed h
  | abxRead | abyRead => exact eaIndexedRead_crossed h
  | abxFixed | abyFixed => exact eaIndexedFixed_crossed h
  | izx =>
    obtain ⟨u, hu, h⟩ := Except.ok_of_bind h
    obtain ⟨q, hq, h⟩ := Except.ok_of_bind h
    rw [← Except.ok.inj h]
    exact ((dummyRead_cycled hu).trans (readPointer_cycled hq)).deliver _ _
  | izyRead =>
    obtain ⟨q, hq, h⟩ := Except.ok_of_bind h
    exact (readPointer_cycled hq).thenCrossed (eaIndexedRead_crossed h)
  | izyFixed =>
    obtain ⟨q, hq, h⟩ := Except.ok_of_bind h
    exact (readPointer_cycled hq).thenCrossed (eaIndexedFixed_crossed h)

/-! ### Shapes of instructions -/

/-- The shapes of the 6507's instructions but for the branches: the cycles after the fetches, and whether a crossed page adds
one. -/
inductive Shaped : (State → Except Stop State) → Nat → Bool → Prop
  | immediate {op : Byte → Cpu → Cpu} (steady : ∀ m, Cpu.Steady (op m)) (b : Byte) : Shaped (immediate op b) 0 false
  | read {ea : Ea} {n : Nat} {crosses : Bool} (mode : Mode ea n crosses) {op : Byte → Cpu → Cpu}
      (steady : ∀ m, Cpu.Steady (op m)) : Shaped (readVia ea op) (n + 1) crosses
  | store {ea : Ea} {n : Nat} {crosses : Bool} (mode : Mode ea n crosses) (val : Cpu → Byte) :
      Shaped (storeVia ea val) (n + 1) crosses
  | rmw {ea : Ea} {n : Nat} {crosses : Bool} (mode : Mode ea n crosses) (f : Byte → Bool → Byte × Bool)
      {post : Byte → Cpu → Cpu} (steady : ∀ m, Cpu.Steady (post m)) : Shaped (rmwVia ea f post) (n + 3) crosses
  | implied {op : Cpu → Cpu} (steady : Cpu.Steady op) : Shaped (implied op) 1 false
  | jump (a : Addr) : Shaped (jumpTo a) 0 false
  | jumpIndirect (b1 b2 : Byte) : Shaped (jumpIndirect b1 b2) 2 false
  | jumpSubroutine (b : Byte) : Shaped (jumpSubroutine b) 4 false
  | returnSubroutine : Shaped returnSubroutine 5 false
  | returnFromTrap : Shaped returnFromTrap 5 false
  | takeBreak : Shaped takeBreak 6 false
  | push (val : Cpu → Byte) : Shaped (pushRegister val) 2 false
  | pull {op : Byte → Cpu → Cpu} (steady : ∀ m, Cpu.Steady (op m)) : Shaped (pullInto op) 3 false
  | arr (b : Byte) : Shaped (arr b) 0 false
  | jam : Shaped (fun s => .ok (s.mapCpu Cpu.jam)) 0 false
  | undoc {f : State → Except Stop State} {n : Nat} {crosses : Bool} (shaped : Shaped f n crosses) :
      Shaped (undoc f) n crosses

theorem undoc_ok {f : State → Except Stop State} (h : undoc f s = .ok t) : f s = .ok t := by
  unfold undoc at h
  split at h
  · exact h
  · exact absurd h nofun

theorem Shaped.crossed {f : State → Except Stop State} {n : Nat} {crosses : Bool} (shape : Shaped f n crosses)
    (h : f s = .ok t) : Crossed n crosses s t := by
  induction shape with
  | immediate steady b =>
    rw [← Except.ok.inj h]
    exact ((Cycled.refl s).steady (steady b)).crossed
  | read mode steady =>
    obtain ⟨e, he, h⟩ := Except.ok_of_bind h
    obtain ⟨x, hx, h⟩ := Except.ok_of_bind h
    rw [← Except.ok.inj h]
    exact (mode.crossed he).trans ((cycleRead_cycled hx).steady (steady _))
  | store mode val =>
    obtain ⟨e, he, h⟩ := Except.ok_of_bind h
    exact (mode.crossed he).trans (cycleWrite_cycled h)
  | rmw mode f steady =>
    obtain ⟨e, he, h⟩ := Except.ok_of_bind h
    obtain ⟨x, hx, h⟩ := Except.ok_of_bind h
    obtain ⟨v, hv, h⟩ := Except.ok_of_bind h
    obtain ⟨w, hw, h⟩ := Except.ok_of_bind h
    rw [← Except.ok.inj h]
    have accesses := ((cycleRead_cycled hx).trans (cycleWrite_cycled hv)).trans (cycleWrite_cycled hw)
    exact (mode.crossed he).trans (accesses.mapCpu ((steady _).count _) ((steady _).fix _))
  | implied steady => exact (implied_cycled steady h).crossed
  | jump a =>
    rw [← Except.ok.inj h]
    exact ((Cycled.refl s).mapCpu (f := Cpu.setPC a) rfl rfl).crossed
  | jumpIndirect b1 b2 => exact (loadPC_cycled h).crossed
  | jumpSubroutine b => exact (jumpSubroutine_cycled h).crossed
  | returnSubroutine => exact (returnSubroutine_cycled h).crossed
  | returnFromTrap => exact (returnFromTrap_cycled h).crossed
  | takeBreak => exact (takeBreak_cycled h).crossed
  | push val => exact (pushRegister_cycled h).crossed
  | pull steady => exact (pullInto_cycled steady h).crossed
  | arr b =>
    unfold Machine.arr at h
    split at h
    · exact absurd h nofun
    · rw [← Except.ok.inj h]
      exact ((Cycled.refl s).mapCpu (f := Cpu.arr b) rfl rfl).crossed
  | jam =>
    rw [← Except.ok.inj h]
    exact ((Cycled.refl s).mapCpu (f := Cpu.jam) rfl rfl).crossed
  | undoc _ ih => exact ih (undoc_ok h)

end Sys2Proof.Machine
end

section
/-! PROOFS. The bus cycles of every 6507 instruction, and what every step keeps (R201 to R341, R350 to R372, R471, R702). -/

namespace Sys2Proof.Machine

/-! ### Steady operations -/

/-- An operation that leaves the cycle count and `fix` where they stand. -/
theorem Cpu.Steady.of_rfl {op : Cpu → Cpu} (h : ∀ k, ((op k).t, (op k).fix) = (k.t, k.fix)) : Cpu.Steady op :=
  ⟨fun k => congrArg Prod.fst (h k), fun k => congrArg Prod.snd (h k)⟩

/-! ### The cycles of a row -/

theorem run_next {o : Except Stop State} {t : State} (h : run o = .next t) : o = .ok t := by
  unfold run at h
  split at h
  · rw [Host.Outcome.next.inj h]
  · exact absurd h nofun
  · exact absurd h nofun

/-- The row's shape makes, with the bytes fetched, the row's cycles. -/
def Timed (r : Instr × Nat × Nat × Bool) : Prop :=
  ∃ f, (∀ s, exec r.1 s = run (f s)) ∧ Shaped f (r.2.2.1 - r.2.1) r.2.2.2 ∧ r.2.1 ≤ r.2.2.1

theorem Timed.cons {i : Instr} {fetched cycles : Nat} {crosses : Bool} {f : State → Except Stop State}
    {rows : List (Instr × Nat × Nat × Bool)} (rest : ∀ r ∈ rows, Timed r) (means : ∀ s, exec i s = run (f s))
    (shape : Shaped f (cycles - fetched) crosses) (le : fetched ≤ cycles) :
    ∀ r ∈ (i, fetched, cycles, crosses) :: rows, Timed r :=
  List.forall_mem_cons.2 ⟨⟨f, means, shape, le⟩, rest⟩

/-- Row by row: the instruction's meaning names its operation, whose shape is read off constructor by constructor. An
immediate and a jump are named, since their meaning unfolds past the operation. -/
theorem timed_cycleRows (b1 b2 : Byte) : ∀ r ∈ cycleRows b1 b2, Timed r := by
  simp only [cycleRows, List.forall_mem_append]
  refine ⟨⟨⟨?_, ?_⟩, ?_⟩, ?_⟩
  all_goals
    repeat
      first
      | refine .cons ?_ (fun _ => rfl) ?_ (by decide)
      | refine .cons (f := immediate _ b1) ?_ (fun _ => rfl) ?_ (by decide)
      | refine .cons (f := jumpTo _) ?_ (fun _ => rfl) ?_ (by decide)
    · exact List.forall_mem_nil _
    all_goals repeat' first | exact Cpu.Steady.of_rfl fun _ => rfl | intro _ | with_reducible constructor

/-- Settles O30: the shape of each row makes its cycles, whatever is on the bus. -/
theorem cpuCycles : Obligations.CpuCycles := by
  intro b1 b2 s t _
  refine ⟨fun r hr h => ?rows, fun r hr h => ?branches⟩
  case rows =>
    obtain ⟨f, means, shape, le⟩ := timed_cycleRows b1 b2 r hr
    have count := (shape.crossed (run_next ((means s).symm.trans h))).count
    omega
  case branches =>
    exact (branch_cycled (run_next ((exec_branchRows b1 s r hr).symm.trans h))).count

/-! ### The instructions of a step -/

/-- What the model gives an instruction of the 6507: a shape, a branch, or a refusal. -/
inductive Known (i : Instr) : Prop
  | shaped {f : State → Except Stop State} {n : Nat} {crosses : Bool} (means : ∀ s, exec i s = run (f s))
      (shape : Shaped f n crosses)
  | branch {taken : Cpu → Bool} {off : Byte} (means : ∀ s, exec i s = run (Machine.branch taken off s))
  | refused {r : Refusal} (means : ∀ s, exec i s = .refused r)

/-- Constructor by constructor of the instructions, and then of the shapes. -/
theorem isThumb_or_known (i : Instr) : isThumb i = true ∨ Known i := by
  cases i
  all_goals
    first
    | exact .inl rfl
    | exact .inr (.refused fun _ => rfl)
    | exact .inr (.branch fun _ => rfl)
    | apply Or.inr; apply Known.shaped fun _ => rfl
    | apply Or.inr; apply Known.shaped (f := immediate _ _) fun _ => rfl
    | apply Or.inr; apply Known.shaped (f := jumpTo _) fun _ => rfl
  all_goals repeat' first | exact Cpu.Steady.of_rfl fun _ => rfl | intro _ | with_reducible constructor

theorem exec_inv {i : Instr} {s t : State} (notThumb : isThumb i = false) (inv : s.Inv) (h : exec i s = .next t) : t.Inv := by
  have known := (isThumb_or_known i).resolve_left (by rw [notThumb]; exact Bool.false_ne_true)
  cases known with
  | shaped means shape => exact (shape.crossed (run_next ((means s).symm.trans h))).inv inv
  | branch means => exact (branch_cycled (run_next ((means s).symm.trans h))).inv inv
  | refused means => exact absurd ((means s).symm.trans h) nofun

theorem isThumb_decode6507 (b0 b1 b2 : Byte) : isThumb (decode6507 b0 b1 b2) = false := by
  obtain ⟨n, rfl⟩ : ∃ n : Fin 256, b0 = BitVec.ofFin n := ⟨b0.toFin, rfl⟩
  fin_cases n <;> rfl

theorem fetchOpcode_cycled {s : State} {x : Byte × State} (h : fetchOpcode s = .ok x) : Cycled 1 s x.2 := by
  obtain ⟨y, hy, h⟩ := Except.ok_of_bind h
  rw [← Except.ok.inj h]
  exact (fetchByte_cycled hy).mapCpu (f := fun k => { k with ir := y.1 }) rfl rfl

/-- What a fetch delivers is an instruction of the 6507, after cycles of the bus. -/
theorem fetchInstr_cycled {s : State} {x : Instr × State} (h : fetchInstr s = .ok x) :
    isThumb x.1 = false ∧ ∃ n, Cycled n s x.2 := by
  obtain ⟨op, hop, h⟩ := Except.ok_of_bind h
  have one := fetchOpcode_cycled hop
  dsimp only at h
  split at h
  · rw [← Except.ok.inj h]
    exact ⟨isThumb_decode6507 _ _ _, _, one⟩
  · obtain ⟨b1, hb1, h⟩ := Except.ok_of_bind h
    have two := one.trans (fetchByte_cycled hb1)
    split at h
    · rw [← Except.ok.inj h]
      exact ⟨isThumb_decode6507 _ _ _, _, two⟩
    · split at h
      · rw [← Except.ok.inj h]
        exact ⟨isThumb_decode6507 _ _ _, _, two⟩
      · obtain ⟨b2, hb2, h⟩ := Except.ok_of_bind h
        rw [← Except.ok.inj h]
        exact ⟨isThumb_decode6507 _ _ _, _, two.trans (fetchByte_cycled hb2)⟩

theorem State.execute_inv {i : Instr} {s t : State} (notThumb : isThumb i = false) (inv : s.Inv)
    (h : s.execute i = .next t) : t.Inv := by
  unfold State.execute at h
  split at h
  · next u hu =>
    rw [← Host.Outcome.next.inj h]
    exact (exec_inv notThumb inv hu).mapCpu _
  · exact absurd h nofun
  · exact absurd h nofun

/-! ### The other steps -/

theorem resetStackCycle_cycled {s t : State} (h : resetStackCycle s = .ok t) : Cycled 1 s t := by
  obtain ⟨u, hu, h⟩ := Except.ok_of_bind h
  rw [← Except.ok.inj h]
  exact (dummyRead_cycled hu).mapCpu rfl rfl

theorem resetSequence_inv {s t : State} (inv : s.Inv) (h : resetSequence s = .ok t) : t.Inv := by
  obtain ⟨u, hu, h⟩ := Except.ok_of_bind h
  obtain ⟨v, hv, h⟩ := Except.ok_of_bind h
  obtain ⟨w, hw, h⟩ := Except.ok_of_bind h
  obtain ⟨x, hx, h⟩ := Except.ok_of_bind h
  obtain ⟨y, hy, h⟩ := Except.ok_of_bind h
  obtain ⟨z, hz, h⟩ := Except.ok_of_bind h
  rw [← Except.ok.inj h]
  have stack := ((resetStackCycle_cycled hw).trans (resetStackCycle_cycled hx)).trans (resetStackCycle_cycled hy)
  have before := ((dummyRead_cycled hu).trans (dummyRead_cycled hv)).trans stack
  exact ((loadPC_cycled hz).inv ((before.inv inv).mapCpu _)).mapCpu _

/-- A `Run()` in progress has its pipeline (R480). -/
theorem State.armResume_inv {s t : State} (inv : s.Inv) (running : s.arm.yield = .running) (h : s.armResume = .ok t) :
    t.Inv := by
  cases hi : s.armIterate with
  | error e =>
    rw [State.armResume, hi] at h
    exact absurd h nofun
  | ok u =>
    rw [State.armResume, hi] at h
    obtain ⟨kept, piped⟩ := State.armIterate_keeps hi
    have after := kept.inv inv (piped (inv.pipeline (by rw [running]; exact nofun)))
    rw [← Except.ok.inj h]
    split
    · exact after
    · exact { after with }

/-- Settles O60: each kind of step keeps the invariant. -/
theorem invKept : Obligations.InvKept := by
  intro s t inv h
  unfold step at h
  split at h
  · exact absurd h nofun
  split at h
  · next resumes => exact State.armResume_inv inv resumes.2 (run_next h)
  split at h
  · exact resetSequence_inv inv (run_next h)
  split at h
  · exact (State.driverTail_carried (run_next h)).inv inv
  split at h
  · exact (State.driverTail_carried (run_next h)).inv inv
  split at h
  · exact absurd (run_next h) nofun
  · next x hx =>
    obtain ⟨notThumb, n, fetched⟩ := fetchInstr_cycled hx
    exact State.execute_inv notThumb (fetched.inv inv) h

end Sys2Proof.Machine
end
